-- ==== Sys2Proof/Word.lean ====
section
/-! DEFINITION. The words the manual treats as bits, and the complex pair of integers (00_scope.md). -/

namespace Sys2Proof

/-- One octet of the main-board link, or of a message body (08, 11). -/
abbrev Octet := BitVec 8

/-- A value of the 32-bit time count, in microseconds (R5). -/
abbrev Stamp := BitVec 32

/-- A revolution number: 32 bits, wrapping (R12). -/
abbrev RevNum := BitVec 32

/-- A complex pair of integers, (real, imaginary): an orbit vector, an estimate, a coefficient
(00_scope.md, Complex pairs). -/
structure Pair where
  re : Int
  im : Int
  deriving DecidableEq, Repr

end Sys2Proof
end

