-- ==== Sys2Proof/Syntax.lean ====
section
/-! DEFINITION. The commands the block takes: one constructor for each row of spec/opcode_table.json. -/

namespace Sys2Proof

/-- What has passed since the last command without being a row of the table (log 1): the
microseconds (R5), whether SVC has risen (R188: a rising edge has no effect but on its level), and
whether DFLT has been deasserted (R133: no effect but on its level). -/
structure Wait where
  us : Nat
  svcRises : Bool
  dfltReleases : Bool
  deriving DecidableEq, Repr

/-- Nothing has passed since the last command. -/
def Wait.zero : Wait := ⟨0, false, false⟩

/-- Only time has passed since the last command. -/
def Wait.of (us : Nat) : Wait := ⟨us, false, false⟩

/-- The commands, in the order of the table. A request stands for one request frame whose CRC
agrees, offered to the receive buffer (log 5): its tag and its body octets. -/
inductive Instr where
  /-- POWER_ON_RESET: NRST is applied and released with LSEL at this level (R24, R162, R179). -/
  | powerOnReset (w : Wait) (lsel : Bool)
  /-- INDEX_EDGE: a rising edge on IDX. `slotFollows` says that a slot edge will be taken inside the
  pairing window this edge opens (R7, R10; log 4). -/
  | indexEdge (w : Wait) (slotFollows : Bool)
  /-- SLOT_EDGE: a rising edge on SLT (R6). -/
  | slotEdge (w : Wait)
  /-- PAIRING_WINDOW_EXPIRY: the 200 us pairing window runs out (R7). -/
  | pairingWindowExpiry (w : Wait)
  /-- PENDING_PAIRING_EXPIRY: the 200 us hold of the pending slot edge runs out (R7). -/
  | pendingPairingExpiry (w : Wait)
  /-- READ_COMPLETE: the sensor read completes with these two 12-bit codes (R18). -/
  | readComplete (w : Wait) (x y : BitVec 12)
  /-- CONVERSION_COMPLETE: the TQ conversion completes with this 10-bit code (R23). -/
  | conversionComplete (w : Wait) (code : BitVec 10)
  /-- STANDSTILL_EXPIRY: 500 ms have passed with no slot edge (R16). -/
  | standstillExpiry (w : Wait)
  /-- DFLT_ASSERTED: an assertion of DFLT (R133). -/
  | dfltAsserted (w : Wait)
  /-- FLOW_PULSE: a rising edge on FLW (R146, R153). -/
  | flowPulse (w : Wait)
  /-- SVC_FALLING: a falling edge on SVC (R188). -/
  | svcFalling (w : Wait)
  /-- OCTET_RECEIVED: an octet received correctly on LRX (R164). -/
  | octetReceived (w : Wait) (octet : Octet)
  /-- LINE_ERROR: an octet received with a low stop bit (R162, R164). -/
  | lineError (w : Wait)
  /-- GAP_TIMER_EXPIRY: 20 ms without an octet while a frame is in assembly (R165). -/
  | gapTimerExpiry (w : Wait)
  /-- FRAME_SENT: the last octet of the frame being sent ends (R172). -/
  | frameSent (w : Wait)
  /-- WEIGH_LIMIT_EXPIRY (R56). -/
  | weighLimitExpiry (w : Wait)
  /-- RAMP_TIMEOUT (R126, R127). -/
  | rampTimeout (w : Wait)
  /-- SESSION_TIMER_EXPIRY (R130). -/
  | sessionTimerExpiry (w : Wait)
  /-- CLEAR_EXPIRY: the 20 ms clear timer expires (R78). -/
  | clearExpiry (w : Wait)
  /-- BLEED_EXPIRY: the 100 ms bleed timer expires (R142). -/
  | bleedExpiry (w : Wait)
  /-- SUPPLY_TIMEOUT: the supply timer expires (R152). -/
  | supplyTimeout (w : Wait)
  /-- IDENTIFY, kind 01h (R175). -/
  | identify (w : Wait) (tag : Octet) (body : List Octet)
  /-- STATUS, kind 02h (R176). -/
  | status (w : Wait) (tag : Octet) (body : List Octet)
  /-- RESTART, kind 03h (R177). -/
  | restart (w : Wait) (tag : Octet) (body : List Octet)
  /-- LOAD_LADDER, kind 10h (R91). -/
  | loadLadder (w : Wait) (tag : Octet) (body : List Octet)
  /-- LOAD_PARAMETERS, kind 11h (R94). -/
  | loadParameters (w : Wait) (tag : Octet) (body : List Octet)
  /-- LOAD_BASELINE, kind 12h (R65). -/
  | loadBaseline (w : Wait) (tag : Octet) (body : List Octet)
  /-- FLUSH_TABLE, kind 13h (R81). -/
  | flushTable (w : Wait) (tag : Octet) (body : List Octet)
  /-- START_SPIN, kind 18h (R115). -/
  | startSpin (w : Wait) (tag : Octet) (body : List Octet)
  /-- SET_TARGET, kind 19h (R128). -/
  | setTarget (w : Wait) (tag : Octet) (body : List Octet)
  /-- STOP, kind 1Ah (R129). -/
  | stop (w : Wait) (tag : Octet) (body : List Octet)
  /-- QUERY_ESTIMATE, kind 20h (R38). -/
  | queryEstimate (w : Wait) (tag : Octet) (body : List Octet)
  /-- SET_TRACE, kind 24h (R185). -/
  | setTrace (w : Wait) (tag : Octet) (body : List Octet)
  /-- READ_TRACE, kind 25h (R184). -/
  | readTrace (w : Wait) (tag : Octet) (body : List Octet)
  /-- SERVICE_ENTER, kind 30h (R187). -/
  | serviceEnter (w : Wait) (tag : Octet) (body : List Octet)
  /-- SERVICE_LEAVE, kind 31h (R188). -/
  | serviceLeave (w : Wait) (tag : Octet) (body : List Octet)
  /-- EXAMINE, kind 32h (R189). -/
  | examine (w : Wait) (tag : Octet) (body : List Octet)
  /-- DEPOSIT_SLOT, kind 33h with target octet SLOT; `fields` are the body octets after the target
  octet (R191; log 6). -/
  | depositSlot (w : Wait) (tag : Octet) (fields : List Octet)
  /-- DEPOSIT_CHAMBER, kind 33h with target octet CHAMBER; `fields` are the body octets after the
  target octet (R192; log 6). -/
  | depositChamber (w : Wait) (tag : Octet) (fields : List Octet)
  /-- MANUAL_FILL, kind 34h (R193). -/
  | manualFill (w : Wait) (tag : Octet) (body : List Octet)
  /-- STOP_FILL, kind 35h (R194). -/
  | stopFill (w : Wait) (tag : Octet) (body : List Octet)
  /-- FORCE_BASELINE, kind 36h (R195). -/
  | forceBaseline (w : Wait) (tag : Octet) (body : List Octet)
  /-- UNKNOWN_KIND: a frame whose kind names no request (R170). -/
  | unknownKind (w : Wait) (kind tag : Octet) (body : List Octet)
  deriving DecidableEq, Repr

end Sys2Proof
end

