-- ==== Sys2Proof/WellFormed.lean ====
section
/-! DEFINITION. Which commands the line and the pins can bring: a frame body holds 0 to 64 octets (08, 8.2), and an
UNKNOWN_KIND frame carries a kind outside the request catalogue (R170). -/

namespace Sys2Proof

/-- The request kinds of the catalogue of 08. -/
def requestKinds : List Octet :=
  [0x01, 0x02, 0x03, 0x10, 0x11, 0x12, 0x13, 0x18, 0x19, 0x1A, 0x20, 0x24, 0x25,
   0x30, 0x31, 0x32, 0x33, 0x34, 0x35, 0x36]

/-- A body that one frame can carry: at most 64 octets (08, 8.2). -/
def bodyFits (body : List Octet) : Bool := body.length ≤ 64

/-- The commands that can arise. -/
def Instr.wellFormed : Instr → Bool
  | .powerOnReset _ _ => true
  | .indexEdge _ _ => true
  | .slotEdge _ => true
  | .pairingWindowExpiry _ => true
  | .pendingPairingExpiry _ => true
  | .readComplete _ _ _ => true
  | .conversionComplete _ _ => true
  | .standstillExpiry _ => true
  | .dfltAsserted _ => true
  | .flowPulse _ => true
  | .svcFalling _ => true
  | .octetReceived _ _ => true
  | .lineError _ => true
  | .gapTimerExpiry _ => true
  | .frameSent _ => true
  | .weighLimitExpiry _ => true
  | .rampTimeout _ => true
  | .sessionTimerExpiry _ => true
  | .clearExpiry _ => true
  | .bleedExpiry _ => true
  | .supplyTimeout _ => true
  | .identify _ _ body => bodyFits body
  | .status _ _ body => bodyFits body
  | .restart _ _ body => bodyFits body
  | .loadLadder _ _ body => bodyFits body
  | .loadParameters _ _ body => bodyFits body
  | .loadBaseline _ _ body => bodyFits body
  | .flushTable _ _ body => bodyFits body
  | .startSpin _ _ body => bodyFits body
  | .setTarget _ _ body => bodyFits body
  | .stop _ _ body => bodyFits body
  | .queryEstimate _ _ body => bodyFits body
  | .setTrace _ _ body => bodyFits body
  | .readTrace _ _ body => bodyFits body
  | .serviceEnter _ _ body => bodyFits body
  | .serviceLeave _ _ body => bodyFits body
  | .examine _ _ body => bodyFits body
  | .depositSlot _ _ fields => fields.length ≤ 63
  | .depositChamber _ _ fields => fields.length ≤ 63
  | .manualFill _ _ body => bodyFits body
  | .stopFill _ _ body => bodyFits body
  | .forceBaseline _ _ body => bodyFits body
  | .unknownKind _ kind _ body => bodyFits body && !requestKinds.contains kind

end Sys2Proof
end

