-- ==== Sys2Proof/Config.lean ====
section
/-! DEFINITION. What the manual leaves open: constants with no body, so that nothing can be proved of their values. -/

namespace Sys2Proof.Config

/-- The check function of a coefficient slot over its tag and its two components. R62: the part
computes it, and the manual does not give it. Free (log 7). -/
opaque checkValue : Fin 4 → Pair → BitVec 16

/-- How far the value that a wrong-check Deposit writes lies from the computed check value. R62 says
only that it differs. Free (log 7). -/
opaque wrongCheckOffset : Fin 4 → Pair → Nat

/-- The 24-bit code (x high, y low) that the sensor still sends for a read in progress when the
revolution of its slot closes. R12 does not say what the record holds there. Free (log 8). -/
opaque openSampleCode : Nat → Nat → BitVec 24

/-- The slot speed of a slot interval of 0 microseconds: R6 divides by it. Free (log 9). -/
opaque openSlotSpeed : Nat → Nat

/-- The speed of a revolution whose period is 0 microseconds: R10 divides by it. Free (log 9). -/
opaque openPeriodSpeed : Nat → Nat

/-- The prediction P(x) for a size |U| when the coefficient K(x) is (0, 0): R36 divides by its magnitude. Free (log 39). -/
opaque openPrediction : Nat → Nat

/-- Whether the Chamber Controller takes the lowered speed of an event before the Spin Controller
takes that event's record (R14, R150) or stopped event (R16, R132). Free (log 10). -/
opaque speedTakenFirst : Nat → Bool

end Sys2Proof.Config
end

