-- ==== Sys2Proof/Machine/State.lean ====
section
/-! DEFINITION. The state of the block, as plain data: every register, queue, buffer, counter, mode and input level the
manual gives it, block by block (00_scope.md, Block overview), and its value after power-on reset. -/

namespace Sys2Proof.Machine

/-! ## Names of the manual -/

/-- A timer of the manual: the time it was started and its period in microseconds. Where a timer may
be stopped, the state holds an `Option` of one. -/
structure Timer where
  start : Stamp
  us : Nat
  deriving DecidableEq, Repr

/-- The nine spin states (R111). -/
inductive SpinState where
  | weighing | ramping | settling | measuring | balancing | retreating | winddown | aborting | idle
  deriving DecidableEq, Repr

/-- Closing causes and end causes (R111); NONE is the absence of one. -/
inductive Cause where
  | stop | duration | redistribute | unbalanced | strike | index | sensor | drive | table
  deriving DecidableEq, Repr

/-- The reasons of a STATE report (R114). -/
inductive StateReason where
  | start | weighed | advance | arrived | filled | watch | settled | balance | retreat | cap
  | shortfall | target | stopped
  | closing (c : Cause)
  deriving DecidableEq, Repr

/-- Ramp directions (R111). -/
inductive Dir where
  | up | down
  deriving DecidableEq, Repr

/-- Kinds of a ladder step (R90). -/
inductive StepKind where
  | dwell | crossing
  deriving DecidableEq, Repr

/-- A ladder step (R90): speed in rpm, kind, limit L in tu. -/
structure LadderStep where
  speed : Nat
  kind : StepKind
  limit : Nat
  deriving DecidableEq, Repr

/-- The spin parameters, in the order of R93's table. -/
structure Params where
  settleRevs : Nat
  windowRevs : Nat
  spreadLimit : Nat
  strikeLimit : Nat
  redistThreshold : Nat
  maxAttempts : Nat
  maxPlans : Nat
  maxRetreats : Nat
  holdSpeed : Nat
  bleed : Nat
  flowCal : Nat
  planLimit : Nat
  minFill : Nat
  ringOffset : Nat
  errorResponse : Nat
  noiseFloor : Nat
  weighLow : Nat
  weighHigh : Nat
  basketInertia : Nat
  threshold1 : Nat
  threshold2 : Nat
  threshold3 : Nat
  rampAllowance : Nat
  supplyTimeout : Nat
  deriving DecidableEq, Repr

/-! ## Rotation Timer and Excursion Sampler (01) -/

/-- A sample pair of a slot (R18, R19): its read has not completed, it is invalid, or it is valid
with its two components in tu. -/
inductive Sample where
  | unread
  | invalid
  | valid (x y : Int)
  deriving DecidableEq, Repr

/-- The revolution being built (R8, R9, R13). `samples` holds the pairs of its first 32 slots, slot k
at place k. `struck` says that a sample of it was a strike (R22). -/
structure Revolution where
  openedAt : Stamp
  paired : Bool
  slots : Nat
  samples : List Sample
  ramping : Bool
  filling : Bool
  struck : Bool
  deriving DecidableEq, Repr

/-- A slot edge held pending pairing (R7), with its sample (R18), its torque sample (R52) and what
the sampler saw at the edge (R13). -/
structure PendingSlot where
  timer : Timer
  sample : Sample
  torque : Option Nat
  ramping : Bool
  filling : Bool
  struck : Bool
  deriving DecidableEq, Repr

/-- Where the pair of the read in progress goes (R7, R8, R18): to the pending slot edge, to slot k of
the open revolution (stored when k is below 32), or nowhere. -/
inductive ReadDest where
  | pending
  | slot (k : Nat)
  | nowhere
  deriving DecidableEq, Repr

/-- A sensor read in progress (R18). -/
structure ReadInProgress where
  timer : Timer
  dest : ReadDest
  deriving DecidableEq, Repr

/-- Which sum the torque sample of the conversion in progress enters (R50, R52): the acceleration
sum, the hold sum, the one its pending slot edge will lead to, or none. -/
inductive TorqueDest where
  | accel
  | hold
  | pending
  | nowhere
  deriving DecidableEq, Repr

/-- A TQ conversion in progress (R23). -/
structure Conversion where
  timer : Timer
  dest : TorqueDest
  deriving DecidableEq, Repr

/-- The Rotation Timer. `rev` absent is WAITING, present is TIMING (1.3). -/
structure Rotation where
  rev : Option Revolution
  window : Option Timer
  pendingSlot : Option PendingSlot
  counter : RevNum
  sinceIndex : Nat
  lastEdge : Option Stamp
  slotSpeed : Nat
  speed : Nat
  fallback : Bool
  stopped : Bool
  standstill : Option Timer
  indexLost : Bool
  deriving DecidableEq, Repr

/-- The Excursion Sampler, beside the revolution being built (R20, R22). -/
structure Sampler where
  read : Option ReadInProgress
  conv : Option Conversion
  invalidRun : Nat
  idleStrike : Bool
  deriving DecidableEq, Repr

/-- A revolution record (R12), as it is handed on. -/
structure RevRecord where
  number : RevNum
  period : Stamp
  speed : Nat
  slots : Nat
  samples : List Sample
  peak : Nat
  wellTimed : Bool
  irregular : Bool
  ramping : Bool
  filling : Bool
  deriving DecidableEq, Repr

/-! ## Orbit Estimator (02) -/

/-- An orbit vector of the window with the number of its revolution (R29). -/
structure WindowEntry where
  number : RevNum
  orbit : Pair
  deriving DecidableEq, Repr

/-- A prediction P(x) of the latest estimate (R36, R37). -/
structure Prediction where
  step : Nat
  p : Nat
  deriving DecidableEq, Repr

/-- The Learned field of the latest estimate (R37). -/
inductive Learned where
  | none | accepted | rejected
  deriving DecidableEq, Repr

/-- The latest estimate (R37). -/
structure Estimate where
  step : Nat
  newest : RevNum
  windowSize : Nat
  steady : Bool
  spread : Nat
  avg : Pair
  k : Pair
  u : Pair
  size : Nat
  learned : Learned
  predictions : List Prediction
  deriving DecidableEq, Repr

/-- The pre-fill record (R39). -/
structure PreFill where
  step : Nat
  avg : Pair
  kOld : Pair
  delivered : Vector Nat 4
  deriving DecidableEq, Repr

/-- The Orbit Estimator. The post-fill mark is the presence of `preFill` (2.3). -/
structure Estimator where
  window : List WindowEntry
  m : Nat
  latest : Option Estimate
  preFill : Option PreFill
  deriving DecidableEq, Repr

/-- Outcome of the learning step (R43). -/
inductive LearnResult where
  | accepted | displacement | delivery | ratio | magnitude
  deriving DecidableEq, Repr

/-- The learning outcome handed to the Influence Table (R44). -/
structure LearnOutcome where
  step : Nat
  result : LearnResult
  kOld : Pair
  kMeas : Option Pair
  kNew : Option Pair
  du : Pair
  d : Pair
  deriving DecidableEq, Repr

/-! ## Weigh Unit (03) -/

/-- Phases of weighing (3.1). -/
inductive WeighPhase where
  | off | below | accelerating | steadying | holding
  deriving DecidableEq, Repr

/-- Reasons of a failed weighing (R54, R56). -/
inductive WeighFail where
  | saturated | torque | time | speed | limit
  deriving DecidableEq, Repr

/-- The result of the most recent weighing (3.1). A failed weighing has class 3 (R54). -/
inductive WeighResult where
  | unweighed
  | weighed (cls : Fin 4) (inertia : Nat)
  | failed (why : WeighFail)
  deriving DecidableEq, Repr

/-- A slot edge of the climb: its stamp and its slot speed (R48, R49). -/
structure ClimbEdge where
  stamp : Stamp
  speed : Nat
  deriving DecidableEq, Repr

/-- The weighing record (3.1). -/
structure Weigh where
  phase : WeighPhase
  t1 : Option ClimbEdge
  t2 : Option ClimbEdge
  accSum : Nat
  nAcc : Nat
  stable : Nat
  holdSum : Nat
  nHold : Nat
  holdRevs : Nat
  saturated : Bool
  limit : Option Timer
  result : WeighResult
  deriving DecidableEq, Repr

/-! ## Influence Table (04) -/

/-- A coefficient slot (R61, R62). -/
structure Slot where
  tag : Fin 4
  k : Pair
  check : BitVec 16
  deriving DecidableEq, Repr

/-- The two sets of valid marks (R63). -/
inductive TableSet where
  | a | b
  deriving DecidableEq, Repr

/-- The flush state (4.6): QUIET, or CLEARING with the clear position, the clear timer and the
flush-pending mark. -/
inductive FlushState where
  | quiet
  | clearing (pos : Nat) (timer : Timer) (flushPending : Bool)
  deriving DecidableEq, Repr

/-- Outcomes in the hit history (R67, R76). -/
inductive Hit where
  | hit | miss | error
  deriving DecidableEq, Repr

/-- An entry of the hit history (R76). -/
structure HistoryEntry where
  step : Nat
  outcome : Hit
  deriving DecidableEq, Repr

/-- The Influence Table. -/
structure Table where
  slots : Vector Slot 12
  marksA : Vector Bool 12
  marksB : Vector Bool 12
  active : TableSet
  flush : FlushState
  baseline : Vector (Vector Pair 4) 12
  loaded : Vector Bool 12
  history : List HistoryEntry
  deriving DecidableEq, Repr

/-! ## Spin Controller (05, 06) -/

/-- The Spin Controller. No ladder is the empty list; the parameters-loaded mark is the presence of
`params` (R93); `dwell` is the current dwell step, which is the last dwell step (R110, R111). -/
structure Spin where
  ladder : List LadderStep
  params : Option Params
  target : Option Nat
  ceiling : Option Nat
  dwell : Option Nat
  attempts : Nat
  retreats : Nat
  plans : Nat
  state : SpinState
  dest : Option Nat
  dir : Option Dir
  rampCount : Nat
  rampTimer : Option Timer
  settle : Nat
  sessionTimer : Option Timer
  closing : Option Cause
  lastEnd : Option Cause
  demand : Nat
  den : Bool
  brk : Bool
  deriving DecidableEq, Repr

/-! ## Chamber Controller (07) -/

/-- Who gave a fill order (R143). -/
inductive Origin where
  | planner | service
  deriving DecidableEq, Repr

/-- Why an order ended (R147); NONE is the absence of one. -/
inductive EndReason where
  | complete | capacity | replaced | stopped | speed | supply
  deriving DecidableEq, Repr

/-- States of a chamber (R141). -/
inductive ChamberState where
  | empty | holding | bleeding | filling
  deriving DecidableEq, Repr

/-- A chamber record's own fields (R140); state and order follow from the rest (R141, R143). -/
structure Chamber where
  content : Nat
  lastEnd : Option EndReason
  deriving DecidableEq, Repr

/-- A fill order (R143). -/
structure Order where
  chamber : Fin 4
  amount : Nat
  origin : Origin
  deriving DecidableEq, Repr

/-- The order in flight (R143). -/
structure Flight where
  order : Order
  startContent : Nat
  pulses : Nat
  delivered : Nat
  deriving DecidableEq, Repr

/-- The pending supply fault (R155). -/
inductive SupplyFault where
  | supply (chamber : Fin 4) (ordered delivered : Nat)
  | leak (count : Nat)
  deriving DecidableEq, Repr

/-- The Chamber Controller. -/
structure ChamberCtl where
  chambers : Vector Chamber 4
  queue : List Order
  flight : Option Flight
  supplyTimer : Option Timer
  leak : Nat
  balancer : Bool
  pendingFault : Option SupplyFault
  bleedTimer : Timer
  deriving DecidableEq, Repr

/-! ## Trace Queue (09) -/

/-- A trace record (R180). `orbit` holds C and M, absent when the record is irregular. -/
structure TraceRecord where
  number : RevNum
  dwell : Option Nat
  state : SpinState
  speed : Nat
  orbit : Option (Pair × Pair)
  peak : Nat
  slots : Nat
  irregular : Bool
  ramping : Bool
  filling : Bool
  gap : Nat
  deriving DecidableEq, Repr

/-- The Trace Queue. -/
structure TraceQueue where
  queue : List TraceRecord
  enable : Bool
  push : Bool
  n : Nat
  m : Nat
  gap : Nat
  deriving DecidableEq, Repr

/-! ## Event reports (R173) -/

/-- Decision outcomes (R107). -/
inductive DecisionCode where
  | advance | balance | retreat | redistribute | cap | hold | unbalanced
  deriving DecidableEq, Repr

/-- Causes of a CEILING report (R98). -/
inductive CeilingCause where
  | cap | retreats | shortfall
  deriving DecidableEq, Repr

/-- The fields of a STATE report (R114). -/
structure StateReport where
  new : SpinState
  prev : SpinState
  reason : StateReason
  dwell : Option Nat
  dest : Option Nat
  dir : Option Dir
  target : Option Nat
  ceiling : Option Nat
  demand : Nat
  deriving DecidableEq, Repr

/-- A mean with the count it was formed from (R57). -/
structure MeanCount where
  mean : Nat
  count : Nat
  deriving DecidableEq, Repr

/-- The fields of a WEIGHED report (R57). -/
structure WeighedReport where
  cls : Fin 4
  fail : Option WeighFail
  inertiaJ : Option (Nat × Nat)
  acc : Option MeanCount
  hold : Option MeanCount
  dt : Option Nat
  w1 : Option Nat
  w2 : Option Nat
  deriving DecidableEq, Repr

/-- The fields of a DECISION report (R107). -/
structure DecisionReport where
  step : Nat
  goal : Nat
  ceiling : Nat
  next : Option Nat
  outcome : DecisionCode
  test : Nat
  steady : Bool
  avg : Pair
  magA : Nat
  limit : Nat
  u : Pair
  size : Nat
  worst : Option (Nat × Int)
  attempts : Nat
  retreats : Nat
  plans : Nat
  orders : Nat
  deriving DecidableEq, Repr

/-- The fields of a CEILING report (R108). -/
structure CeilingReport where
  new : Nat
  prev : Option Nat
  cause : CeilingCause
  dwell : Option Nat
  target : Option Nat
  deriving DecidableEq, Repr

/-- The fields of a REDISTRIBUTION report (R109). -/
structure RedistributionReport where
  attempts : Nat
  maxAttempts : Nat
  step : Nat
  test : Nat
  size : Nat
  magA : Nat
  deriving DecidableEq, Repr

/-- The fields of a FILL_END report (R147). -/
structure FillEndReport where
  order : Order
  pulses : Nat
  delivered : Nat
  reason : EndReason
  content : Nat
  dropped : List Order
  deriving DecidableEq, Repr

/-- The fields of a LEARNED report (R85). -/
structure LearnedReport where
  cls : Fin 4
  outcome : LearnOutcome
  deriving DecidableEq, Repr

/-- The fields of a TABLE_ERROR report (R74, R75): the baseline coefficient is absent when the action
is ABORTED. -/
structure TableErrorReport where
  step : Nat
  cls : Fin 4
  response : Nat
  slotK : Pair
  baselineK : Option Pair
  deriving DecidableEq, Repr

/-- The FAULT reports (R22, R152, R153). -/
inductive FaultReport where
  | strike (counter : RevNum) (x y : Int) (magnitude : Nat)
  | sensor (counter : RevNum) (run : Nat)
  | index (counter : RevNum)
  | supply (chamber : Fin 4) (ordered delivered : Nat)
  | leak (count : Nat)
  deriving DecidableEq, Repr

/-- The fields of a SESSION_END report (R138). -/
structure SessionEndReport where
  cause : Option Cause
  dwell : Option Nat
  ceiling : Option Nat
  attempts : Nat
  retreats : Nat
  deriving DecidableEq, Repr

/-- The event reports (R173). -/
inductive Report where
  | state (r : StateReport)
  | weighed (r : WeighedReport)
  | decision (r : DecisionReport)
  | ceiling (r : CeilingReport)
  | redistribution (r : RedistributionReport)
  | fillEnd (r : FillEndReport)
  | learned (r : LearnedReport)
  | tableError (r : TableErrorReport)
  | fault (r : FaultReport)
  | sessionEnd (r : SessionEndReport)
  deriving DecidableEq, Repr

/-! ## Link Port (08) -/

/-- A frame without its start octet, length and CRC (8.2). -/
structure Frame where
  kind : Octet
  tag : Octet
  body : List Octet
  deriving DecidableEq, Repr

/-- Result codes of a reply (R169). -/
inductive ResultCode where
  | ok | malformed | mode | range | combination | state | noProfile | notReady | supplyFault
  deriving DecidableEq, Repr

/-- A reply (R171): its kind, the request's tag, the result code and the fields after it. -/
structure Reply where
  kind : Octet
  tag : Octet
  result : ResultCode
  fields : List Octet
  deriving DecidableEq, Repr

/-- The receiver (R164) with the octets in assembly, in the order received. -/
inductive RxState where
  | hunting
  | length
  | content (n : Octet) (got : List Octet)
  | check (n : Octet) (got : List Octet) (first : Option Octet)
  deriving DecidableEq, Repr

/-- The frame being sent (R172). -/
structure Sending where
  frame : Frame
  isReply : Bool
  deriving DecidableEq, Repr

/-- The discard counts (R166). -/
structure Discards where
  length : Nat
  line : Nat
  gap : Nat
  crc : Nat
  full : Nat
  deriving DecidableEq, Repr

/-- The Link Port. `fast` is the level of LSEL as sampled: 115,200 baud when high (R162). -/
structure Link where
  fast : Bool
  rx : RxState
  gapTimer : Option Timer
  inService : Option Frame
  waiting : Option Frame
  replySlot : Option Reply
  tx : Option Sending
  reports : List Report
  eventsDropped : Bool
  dropped : Nat
  discards : Discards
  deriving DecidableEq, Repr

/-! ## Service mode (10), input levels, and the whole state -/

/-- The marks of service mode (R187, R195). -/
structure Service where
  mode : Bool
  forceLow : Bool
  forceHigh : Bool
  deriving DecidableEq, Repr

/-- The input pins whose level a rule reads: SVC (R187) and DFLT (R133). -/
structure Pins where
  svc : Bool
  dflt : Bool
  deriving DecidableEq, Repr

/-- The state of the SB-410. `draw` is the model's own counter for free values (log 17) and `pending`
the queue of waiting commands (log 1); everything else is the manual's. -/
structure State where
  time : Stamp
  pins : Pins
  rot : Rotation
  samp : Sampler
  est : Estimator
  weigh : Weigh
  table : Table
  spin : Spin
  cham : ChamberCtl
  trace : TraceQueue
  link : Link
  serv : Service
  draw : Nat
  pending : List Instr
  deriving DecidableEq, Repr

/-- Why the block stops with a fault: no rule of the manual stops it, so there is no such reason and
no meaning answers with one. -/
inductive Fault where
  deriving DecidableEq, Repr

/-- Why a command has no meaning. -/
inductive Refusal where
  /-- A command whose meaning is not written: raised by an arm of `exec` alone. Safe. No arm raises it. -/
  | notModelled (mnemonic : String)
  deriving DecidableEq, Repr

/-! ## Power-on values -/

/-- R24, table 1.8. -/
def Rotation.reset : Rotation :=
  { rev := none, window := none, pendingSlot := none, counter := 0, sinceIndex := 0,
    lastEdge := none, slotSpeed := 0, speed := 0, fallback := true, stopped := true,
    standstill := none, indexLost := false }

/-- R24, table 1.8. -/
def Sampler.reset : Sampler :=
  { read := none, conv := none, invalidRun := 0, idleStrike := false }

/-- R45. -/
def Estimator.reset : Estimator :=
  { window := [], m := 0, latest := none, preFill := none }

/-- R60. -/
def Weigh.reset : Weigh :=
  { phase := .off, t1 := none, t2 := none, accSum := 0, nAcc := 0, stable := 0, holdSum := 0,
    nHold := 0, holdRevs := 0, saturated := false, limit := none, result := .unweighed }

/-- R88. -/
def Table.reset : Table :=
  { slots := Vector.replicate 12 ⟨0, ⟨0, 0⟩, 0⟩, marksA := Vector.replicate 12 false,
    marksB := Vector.replicate 12 false, active := .a, flush := .quiet,
    baseline := Vector.replicate 12 (Vector.replicate 4 ⟨0, 0⟩),
    loaded := Vector.replicate 12 false, history := [] }

/-- R90, R93, R98, R99, R111 to R113. -/
def Spin.reset : Spin :=
  { ladder := [], params := none, target := none, ceiling := none, dwell := none, attempts := 0,
    retreats := 0, plans := 0, state := .idle, dest := none, dir := none, rampCount := 0,
    rampTimer := none, settle := 0, sessionTimer := none, closing := none, lastEnd := none,
    demand := 0, den := false, brk := false }

/-- R159, table 7.5: the bleed timer is started at time 0 with its 100 ms. -/
def ChamberCtl.reset : ChamberCtl :=
  { chambers := Vector.replicate 4 ⟨0, none⟩, queue := [], flight := none, supplyTimer := none,
    leak := 0, balancer := true, pendingFault := none, bleedTimer := ⟨0, 100000⟩ }

/-- R186: the delivery mode follows LSEL. -/
def TraceQueue.reset (lsel : Bool) : TraceQueue :=
  { queue := [], enable := true, push := lsel, n := 4, m := 4, gap := 0 }

/-- R166. -/
def Discards.zero : Discards := ⟨0, 0, 0, 0, 0⟩

/-- R162, R179: the line rate follows LSEL. -/
def Link.reset (lsel : Bool) : Link :=
  { fast := lsel, rx := .hunting, gapTimer := none, inService := none, waiting := none,
    replySlot := none, tx := none, reports := [], eventsDropped := false, dropped := 0,
    discards := .zero }

/-- R187, R195. -/
def Service.reset : Service := ⟨false, false, false⟩

/-- The whole part after power-on reset with LSEL at this level, the input levels and the model's own
fields being what they are. -/
def State.powerOn (lsel : Bool) (pins : Pins) (draw : Nat) (pending : List Instr) : State :=
  { time := 0, pins := pins, rot := .reset, samp := .reset, est := .reset, weigh := .reset,
    table := .reset, spin := .reset, cham := .reset, trace := .reset lsel, link := .reset lsel,
    serv := .reset, draw := draw, pending := pending }

/-- The machine right after reset. LSEL low, SVC low and DFLT deasserted are DESIGN CHOICES (log 16),
as is the start of `draw` (log 17). -/
def State.reset : State := State.powerOn false ⟨false, false⟩ 0 []

/-! ## Named updates: one block at a time -/

def State.setTime (s : State) (v : Stamp) : State := { s with time := v }
def State.setPins (s : State) (v : Pins) : State := { s with pins := v }
def State.setRot (s : State) (v : Rotation) : State := { s with rot := v }
def State.setSamp (s : State) (v : Sampler) : State := { s with samp := v }
def State.setEst (s : State) (v : Estimator) : State := { s with est := v }
def State.setWeigh (s : State) (v : Weigh) : State := { s with weigh := v }
def State.setTable (s : State) (v : Table) : State := { s with table := v }
def State.setSpin (s : State) (v : Spin) : State := { s with spin := v }
def State.setCham (s : State) (v : ChamberCtl) : State := { s with cham := v }
def State.setTrace (s : State) (v : TraceQueue) : State := { s with trace := v }
def State.setLink (s : State) (v : Link) : State := { s with link := v }
def State.setServ (s : State) (v : Service) : State := { s with serv := v }
def State.setDraw (s : State) (v : Nat) : State := { s with draw := v }
def State.setPending (s : State) (v : List Instr) : State := { s with pending := v }

end Sys2Proof.Machine
end

