-- ==== Sys2Proof/Machine/Arith.lean ====
section
/-! DEFINITION. The manual's arithmetic: rounding, saturation, magnitude, the cosine table, two's complement octets and
the CRC (00_scope.md R1 to R4, 08 R163, 11 R196). -/

namespace Sys2Proof.Machine

/-- R1, rounded quotient of natural numbers: to the nearest, halves up (away from zero). -/
def roundDivNat (n d : Nat) : Nat := (2 * n + d) / (2 * d)

/-- R1, rounded quotient: to the nearest integer, halves away from zero. -/
def roundDiv (n : Int) (d : Nat) : Int :=
  if 0 ≤ n then (roundDivNat n.natAbs d : Int) else -(roundDivNat n.natAbs d : Int)

/-- R1, truncated quotient: toward zero. -/
def truncDiv (n : Int) (d : Nat) : Int := Int.tdiv n d

/-- R2, saturation between two bounds. -/
def saturate (lo hi v : Int) : Int := if v < lo then lo else if hi < v then hi else v

/-- R2, a count that saturates at its highest value. -/
def countUp (top n : Nat) : Nat := min top (n + 1)

/-- R3: mag(a, b) = max(|a|, |b|) + floor(3 × min(|a|, |b|) / 8). -/
def mag (p : Pair) : Nat :=
  max p.re.natAbs p.im.natAbs + 3 * min p.re.natAbs p.im.natAbs / 8

/-- R4, the entries for k = 0 to 8. -/
def cosQuarter : Nat → Int
  | 0 => 1024
  | 1 => 1004
  | 2 => 946
  | 3 => 851
  | 4 => 724
  | 5 => 569
  | 6 => 392
  | 7 => 200
  | _ => 0

/-- R4, the entries for k = 0 to 16: C32[16 − k] = −C32[k]. -/
def cosHalf (k : Nat) : Int := if k ≤ 8 then cosQuarter k else -cosQuarter (16 - k)

/-- R4, the cosine table C32: C32[32 − k] = C32[k]. -/
def cos32 (k : Nat) : Int := if k % 32 ≤ 16 then cosHalf (k % 32) else cosHalf (32 - k % 32)

/-- R4, the sine of slot k: C32[(k + 24) mod 32]. -/
def sin32 (k : Nat) : Int := cos32 (k + 24)

/-! ## Octets of message fields (R196): high octet first, signed fields in two's complement -/

/-- A one-octet unsigned field. -/
def u8 (n : Nat) : Octet := BitVec.ofNat 8 n

/-- A two-octet unsigned field. -/
def u16 (n : Nat) : List Octet := [u8 (n / 256), u8 n]

/-- A four-octet unsigned field. -/
def u32 (n : Nat) : List Octet := [u8 (n / 16777216), u8 (n / 65536), u8 (n / 256), u8 n]

/-- A two-octet signed field. -/
def i16 (v : Int) : List Octet := u16 (BitVec.ofInt 16 v).toNat

/-- A complex pair in two signed two-octet fields, real part first (R196). -/
def pair16 (p : Pair) : List Octet := i16 p.re ++ i16 p.im

/-- The value of a two-octet unsigned field. -/
def val16 (hi lo : Octet) : Nat := hi.toNat * 256 + lo.toNat

/-- The value of a two-octet signed field. -/
def sval16 (hi lo : Octet) : Int := (BitVec.ofNat 16 (val16 hi lo)).toInt

/-- R196: a step that may be absent is sent as FFh when it is absent. -/
def stepOctet : Option Nat → Octet
  | some i => u8 i
  | none => 0xFF

/-- A flag as an octet of value 0 or 1. -/
def boolOctet (b : Bool) : Octet := if b then 1 else 0

/-! ## The CRC of a frame (R163) -/

/-- One bit of the check: shift left and, when the bit shifted out is set, enter the generator
polynomial 1021h. -/
def crcBit (c : BitVec 16) : BitVec 16 := if c.msb then (c <<< 1) ^^^ 0x1021 else c <<< 1

/-- `n` bits of the check. -/
def crcBits : Nat → BitVec 16 → BitVec 16
  | 0, c => c
  | n + 1, c => crcBits n (crcBit c)

/-- R163: an octet is entered with its most significant bit first. -/
def crcOctet (c : BitVec 16) (o : Octet) : BitVec 16 := crcBits 8 (c ^^^ (o.setWidth 16 <<< 8))

/-- R163: the check over octets in the order sent, beginning with FFFFh, neither reflected nor
inverted. -/
def crc (octets : List Octet) : BitVec 16 := octets.foldl crcOctet 0xFFFF

/-- The CRC as its two octets, high octet first (R163). -/
def crcOctets (octets : List Octet) : List Octet := u16 (crc octets).toNat

end Sys2Proof.Machine
end

