-- ==== Sys2Proof/Machine/Ops.lean ====
section
/-! DEFINITION. Operations every command shares: time and timers, the input levels a command brings, giving an event
report, what the marks and levels say, and small reads of tables. -/

namespace Sys2Proof.Machine

/-! ## Time (R5) and timers -/

/-- R5: the interval from an earlier stamp to a later one, modulo 2³². -/
def interval (later earlier : Stamp) : Nat := (later - earlier).toNat

/-- Whether a timer's period has passed (log 3). -/
def Timer.due (t : Timer) (now : Stamp) : Bool := t.us ≤ interval now t.start

/-- Whether a timer runs and its period has passed (log 3). -/
def timerDue (t : Option Timer) (now : Stamp) : Bool :=
  match t with
  | some t => t.due now
  | none => false

/-- A timer started now with a period in milliseconds. -/
def msTimer (now : Stamp) (ms : Nat) : Timer := ⟨now, ms * 1000⟩

/-- The same timer's next period, on its own schedule (R78, R142). -/
def Timer.again (t : Timer) : Timer := { t with start := t.start + BitVec.ofNat 32 t.us }

/-- The pairing interval, 200 µs (R7). -/
def pairingUs : Nat := 200

/-- A sensor read takes 18 µs (R18). -/
def readUs : Nat := 18

/-- A TQ conversion takes 12 µs (R23). -/
def conversionUs : Nat := 12

/-- The standstill time, 500 ms (R16). -/
def standstillMs : Nat := 500

/-- The weigh limit, 20,000 ms (R56). -/
def weighLimitMs : Nat := 20000

/-- The clear timer, 20 ms (R78). -/
def clearMs : Nat := 20

/-- The gap timer, 20 ms (R165). -/
def gapMs : Nat := 20

/-- What every command does first: the time count goes on by the time that has passed (R5), the
levels of SVC and DFLT follow the pins (R188, R133), and the model's draw counter advances (log 17). -/
def State.begin (w : Wait) (s : State) : State :=
  { s with
    time := s.time + BitVec.ofNat 32 w.us
    pins := ⟨s.pins.svc || w.svcRises, s.pins.dflt && !w.dfltReleases⟩
    draw := s.draw + 1 }

/-- A step on an empty queue: one microsecond passes (R5; log 2). -/
def State.tick (s : State) : State := { s with time := s.time + 1 }

/-! ## Tables of fixed size -/

/-- The entry of a table at a number; the given value where there is none (log 25). -/
def tget {α : Type} {n : Nat} (v : Vector α n) (i : Nat) (d : α) : α := v[i]?.getD d

/-- The table with the entry at a number replaced; unchanged where there is none. -/
def tset {α : Type} {n : Nat} (v : Vector α n) (i : Nat) (x : α) : Vector α n :=
  v.setIfInBounds i x

/-! ## Event reports (R173, R174) -/

/-- R173: the event report queue holds up to 8 reports. -/
def reportRoom : Nat := 8

/-- R173: a report joins the queue as its newest entry when fewer than 8 are held. R174: otherwise it
is dropped, the events-dropped mark is set and the dropped count goes up. -/
def Link.giveReport (r : Report) (l : Link) : Link :=
  if l.reports.length < reportRoom then { l with reports := l.reports ++ [r] }
  else { l with eventsDropped := true, dropped := countUp 255 l.dropped }

/-- A block gives a report to the Link Port (R173). -/
def giveReport (r : Report) (s : State) : State := s.setLink (s.link.giveReport r)

/-! ## What states and levels say -/

/-- The active states: a session runs in them (00, Active session). -/
def SpinState.active : SpinState → Bool
  | .weighing | .ramping | .settling | .measuring | .balancing | .retreating => true
  | .winddown | .aborting | .idle => false

/-- R13: the spin states in which a revolution is marked ramping. -/
def SpinState.rampingLook : SpinState → Bool
  | .weighing | .ramping | .retreating | .winddown | .aborting => true
  | .settling | .measuring | .balancing | .idle => false

/-- R145, R161: SUPV is open exactly when an order is in flight. -/
def State.supvOpen (s : State) : Bool := s.cham.flight.isSome

/-- R145, R161: a groove valve is open exactly when its chamber's order is in flight. -/
def State.valveOpen (s : State) (c : Fin 4) : Bool :=
  match s.cham.flight with
  | some f => f.order.chamber = c
  | none => false

/-- R141: a chamber is FILLING when its groove valve and SUPV are open for its order in flight. -/
def ChamberCtl.fillingChamber (t : ChamberCtl) (c : Fin 4) : Bool :=
  match t.flight with
  | some f => f.order.chamber = c
  | none => false

/-- R112: the duty of SPD in per mille, truncated. -/
def State.spdDuty (s : State) : Nat := s.spin.demand * 1000 / 1200

/-- R162, R172: LTX is held high while no frame is being sent. -/
def State.ltxIdle (s : State) : Bool := s.link.tx.isNone

/-- The parameters-loaded mark (R93). -/
def Spin.paramsLoaded (p : Spin) : Bool := p.params.isSome

/-- Parameters of no set, for states no run reaches (log 25). -/
def Params.none : Params :=
  ⟨0, 0, 0, 0, 0, 0, 0, 0, 0, 0, 0, 0, 0, 0, 0, 0, 0, 0, 0, 0, 0, 0, 0, 0⟩

/-- The spin parameters as a block reads them (R93). -/
def Spin.par (p : Spin) : Params := p.params.getD .none

/-- The step count (R90). -/
def Spin.stepCount (p : Spin) : Nat := p.ladder.length

/-- speed(i) (R90). -/
def Spin.speedOf (p : Spin) (i : Nat) : Nat :=
  match p.ladder[i]? with
  | some st => st.speed
  | none => 0

/-- L(i) (R90). -/
def Spin.limitOf (p : Spin) (i : Nat) : Nat :=
  match p.ladder[i]? with
  | some st => st.limit
  | none => 0

/-- Whether step i is a DWELL step of the ladder (R90). -/
def Spin.isDwell (p : Spin) (i : Nat) : Bool :=
  match p.ladder[i]? with
  | some st => st.kind = .dwell
  | none => false

/-- The top step (R90). -/
def Spin.topStep (p : Spin) : Nat := p.ladder.length - 1

/-- R90: the highest DWELL step below `s`, searched downward; step 0 when there is no other. -/
def Spin.dwellBelow (p : Spin) : Nat → Nat
  | 0 => 0
  | s + 1 => if p.isDwell s then s else p.dwellBelow s

/-- R90: the lowest DWELL step from `i` upward within `fuel` steps. -/
def Spin.dwellFrom (p : Spin) (i : Nat) : Nat → Option Nat
  | 0 => none
  | fuel + 1 => if p.isDwell i then some i else p.dwellFrom (i + 1) fuel

/-- R90: the next dwell step above `s` and not above the goal; the goal itself is one. -/
def Spin.nextDwell (p : Spin) (s goal : Nat) : Nat := (p.dwellFrom (s + 1) (goal - s)).getD goal

/-- R97: the goal is the lower of the target and the ceiling; absent when either is. -/
def Spin.goal (p : Spin) : Option Nat :=
  match p.target, p.ceiling with
  | some t, some c => some (min t c)
  | _, _ => none

/-- R96: the baseline store's loaded mark is set for every step of the ladder. -/
def State.baselineComplete (s : State) : Bool :=
  (List.range s.spin.stepCount).all (fun i => tget s.table.loaded i false)

/-- R96: the profile is complete. -/
def State.profileComplete (s : State) : Bool :=
  !s.spin.ladder.isEmpty && s.spin.paramsLoaded && s.baselineComplete

/-- The class a lookup is tagged with: the session's class (R59). A failed weighing takes class 3
(R54). -/
def Weigh.cls (w : Weigh) : Option (Fin 4) :=
  match w.result with
  | .unweighed => none
  | .weighed c _ => some c
  | .failed _ => some 3

/-! ## Chambers as their neighbours see them -/

/-- The content of a chamber (R140). -/
def ChamberCtl.content (t : ChamberCtl) (c : Fin 4) : Nat := t.chambers[c].content

/-- The capacity of every chamber, 400 g (R140). -/
def capacity : Nat := 400

/-- The room of a chamber (R144). -/
def ChamberCtl.room (t : ChamberCtl) (c : Fin 4) : Nat := capacity - t.content c

/-- R141, R142: the current speed is below hold_speed. While no parameters are loaded there is no
hold_speed, and a chamber with water is BLEEDING. -/
def State.belowHold (s : State) : Bool :=
  match s.spin.params with
  | some p => s.rot.speed < p.holdSpeed
  | none => true

/-- R141: the state of a chamber. -/
def State.chamberState (s : State) (c : Fin 4) : ChamberState :=
  if s.cham.fillingChamber c then .filling
  else if s.cham.content c = 0 then .empty
  else if s.belowHold || s.rot.stopped then .bleeding
  else .holding

/-- R13: whether any chamber is in FILLING. -/
def State.anyFilling (s : State) : Bool := s.cham.flight.isSome

end Sys2Proof.Machine
end

