-- ==== Sys2Proof/Machine/Estimation.lean ====
section
/-! DEFINITION. The Orbit Estimator's arithmetic (02): orbit vectors, window averages, the imbalance estimate, predictions,
and the learning step; and the fill planner's rotation (07, R157). -/

namespace Sys2Proof.Machine

/-! ## The orbit vector (R27) -/

/-- Sr and Si of R27 over sample pairs numbered from `k`; an invalid pair takes part in no
arithmetic (R19). -/
def orbitSums (k : Nat) : List Sample → Pair
  | [] => ⟨0, 0⟩
  | .valid x y :: rest =>
    let t := orbitSums (k + 1) rest
    ⟨t.re + (x * cos32 k + y * sin32 k), t.im + (y * cos32 k - x * sin32 k)⟩
  | _ :: rest => orbitSums (k + 1) rest

/-- The sums of the components (R27). -/
def offsetSums : List Sample → Pair
  | [] => ⟨0, 0⟩
  | .valid x y :: rest =>
    let t := offsetSums rest
    ⟨t.re + x, t.im + y⟩
  | _ :: rest => offsetSums rest

/-- R27: the orbit vector C. -/
def orbitVector (samples : List Sample) : Pair :=
  let t := orbitSums 0 samples
  ⟨roundDiv t.re 32768, roundDiv t.im 32768⟩

/-- R27: the DC offset M. -/
def dcOffset (samples : List Sample) : Pair :=
  let t := offsetSums samples
  ⟨roundDiv t.re 32, roundDiv t.im 32⟩

/-- R27, R28: C of a record, absent when it is irregular. -/
def RevRecord.orbit (r : RevRecord) : Option Pair :=
  if r.irregular then none else some (orbitVector r.samples)

/-- R27, R28: C and M of a record, absent when it is irregular. -/
def RevRecord.orbitAndOffset (r : RevRecord) : Option (Pair × Pair) :=
  if r.irregular then none else some (orbitVector r.samples, dcOffset r.samples)

/-! ## Windows (R30) -/

def sumPairs : List Pair → Pair
  | [] => ⟨0, 0⟩
  | p :: rest =>
    let t := sumPairs rest
    ⟨t.re + p.re, t.im + p.im⟩

/-- R30: the window average A over W vectors. -/
def windowAverage (w : Nat) (vs : List Pair) : Pair :=
  let t := sumPairs vs
  ⟨roundDiv t.re w, roundDiv t.im w⟩

/-- R30: the spread, the largest mag of a vector's deviation from A. -/
def windowSpread (a : Pair) : List Pair → Nat
  | [] => 0
  | p :: rest => max (mag ⟨p.re - a.re, p.im - a.im⟩) (windowSpread a rest)

/-! ## Estimate and prediction (R35, R36) -/

/-- R35: U from A and K, each component saturating at ±8000. -/
def estimateU (k a : Pair) : Pair :=
  ⟨saturate (-8000) 8000 (roundDiv (k.re * a.re - k.im * a.im) 1024),
   saturate (-8000) 8000 (roundDiv (k.re * a.im + k.im * a.re) 1024)⟩

/-- R35: |U|, padded when the window was marked unsteady. -/
def estimateSize (u : Pair) (steady : Bool) : Nat := if steady then mag u else mag u * 5 / 4

/-- R36: P(x), capped at 65,535. A coefficient of magnitude 0, for which R36 states no result and which only the corner
of log 37 brings here, gives a free value within the cap (log 39). -/
def prediction (size : Nat) (k : Pair) : Nat :=
  min 65535
    (if mag k = 0 then Config.openPrediction size else (size * 1024 + mag k / 2) / mag k)

/-! ## Rotations of the ring (R42, R157) -/

/-- A pair rotated by +δ slots, rounded (R42). -/
def rotateForward (delta : Nat) (e : Pair) : Pair :=
  ⟨roundDiv (e.re * cos32 delta - e.im * sin32 delta) 1024,
   roundDiv (e.re * sin32 delta + e.im * cos32 delta) 1024⟩

/-- A pair rotated by −δ slots, rounded (R157). -/
def rotateBack (delta : Nat) (v : Pair) : Pair :=
  ⟨roundDiv (v.re * cos32 delta + v.im * sin32 delta) 1024,
   roundDiv (v.im * cos32 delta - v.re * sin32 delta) 1024⟩

/-! ## Learning (R42, R43) -/

/-- R42: the change in the ring's frame made by the delivered amounts. -/
def ringChange (d : Vector Nat 4) : Pair :=
  ⟨(d[0] : Int) - d[2], (d[1] : Int) - d[3]⟩

/-- R42: |D|², exact. -/
def squaredLength (d : Pair) : Nat := d.re.natAbs * d.re.natAbs + d.im.natAbs * d.im.natAbs

/-- R43, step 3: saturation of a coefficient component. -/
def coeffSat (v : Int) : Int := saturate (-32768) 32767 v

/-- R43, step 3: the measured coefficient. -/
def measuredK (du d : Pair) : Pair :=
  ⟨coeffSat (roundDiv ((du.re * d.re + du.im * d.im) * 1024) (squaredLength d)),
   coeffSat (roundDiv ((du.im * d.re - du.re * d.im) * 1024) (squaredLength d))⟩

/-- R43, step 5: the blended coefficient. -/
def blendedK (kOld kMeas : Pair) : Pair :=
  ⟨coeffSat (kOld.re + truncDiv (kMeas.re - kOld.re) 4),
   coeffSat (kOld.im + truncDiv (kMeas.im - kOld.im) 4)⟩

/-- R43: the tests in their order, from ΔU, D, the old coefficient and noise_floor. -/
def learnFrom (step noiseFloor : Nat) (kOld du d : Pair) : LearnOutcome :=
  let kMeas := measuredK du d
  let kNew := blendedK kOld kMeas
  if squaredLength d < noiseFloor * noiseFloor then
    ⟨step, .displacement, kOld, none, none, du, d⟩
  else if mag du < 20 then ⟨step, .delivery, kOld, none, none, du, d⟩
  else if mag kMeas < mag kOld / 4 ∨ 4 * mag kOld < mag kMeas then
    ⟨step, .ratio, kOld, some kMeas, none, du, d⟩
  else if mag kNew < 16 then ⟨step, .magnitude, kOld, some kMeas, none, du, d⟩
  else ⟨step, .accepted, kOld, some kMeas, some kNew, du, d⟩

/-- R42 to R44: the learning step on a post-fill window with average `a1`. -/
def learn (p : Params) (pre : PreFill) (a1 : Pair) : LearnOutcome :=
  learnFrom pre.step p.noiseFloor pre.kOld
    (rotateForward p.ringOffset (ringChange pre.delivered))
    ⟨a1.re - pre.avg.re, a1.im - pre.avg.im⟩

/-! ## The fill planner (R157, R158) -/

/-- R157: the raw amounts f0 to f3 of an estimate. -/
def rawAmounts (delta : Nat) (u : Pair) : Vector Nat 4 :=
  let v := rotateBack delta ⟨-u.re, -u.im⟩
  #v[v.re.toNat, v.im.toNat, (-v.re).toNat, (-v.im).toNat]

/-- R158, step 1: the room of a chamber, nothing for one that is BLEEDING. -/
def State.planRoom (s : State) (c : Fin 4) : Nat :=
  if s.chamberState c = .bleeding then 0 else s.cham.room c

/-- R158, step 2: the amount scaled to plan_limit when the sum exceeds it. -/
def scaleAmount (limit sum f : Nat) : Nat := if limit < sum then f * limit / sum else f

/-- R158, step 4: an order put into its place, larger amounts first, the earlier one first when two
are equal. -/
def insertOrder (o : Order) : List Order → List Order
  | [] => [o]
  | q :: rest => if q.amount < o.amount then o :: q :: rest else q :: insertOrder o rest

/-- R158, step 4: orders in decreasing order of amount, the lower chamber first when two are equal. -/
def sortOrders (os : List Order) : List Order := os.foldl (fun acc o => insertOrder o acc) []

/-- R157, R158: the orders the planner makes for an estimate, in the order they join the queue. -/
def State.plan (s : State) (u : Pair) : List Order :=
  let p := s.spin.par
  let raw := rawAmounts p.ringOffset u
  let f := fun c : Fin 4 => min raw[c] (s.planRoom c)
  let sum := f 0 + f 1 + f 2 + f 3
  let g := fun c : Fin 4 => scaleAmount p.planLimit sum (f c)
  sortOrders (([0, 1, 2, 3] : List (Fin 4)).filterMap (fun c =>
    if g c < p.minFill ∨ g c = 0 then none else some ⟨c, g c, .planner⟩))

end Sys2Proof.Machine
end

