-- ==== Sys2Proof/Machine/Flags.lean ====
section
/-! DEFINITION. Flag octets, marks and the codes that stand for named values in messages (11.3), and the marks of the
trace queue (R182). -/

namespace Sys2Proof.Machine

/-- A flag octet from its bits, bit 0 first; the other bits are 0 (R196). -/
def flagBits : List Bool → Nat
  | [] => 0
  | b :: rest => (if b then 1 else 0) + 2 * flagBits rest

/-- A flag octet of one octet. -/
def flagOctet (bits : List Bool) : Octet := u8 (flagBits bits)

/-! ## Codes of 11.3 -/

def ResultCode.code : ResultCode → Octet
  | .ok => 0x00 | .malformed => 0x01 | .mode => 0x02 | .range => 0x03 | .combination => 0x04
  | .state => 0x05 | .noProfile => 0x06 | .notReady => 0x07 | .supplyFault => 0x08

def SpinState.code : SpinState → Nat
  | .weighing => 0 | .ramping => 1 | .settling => 2 | .measuring => 3 | .balancing => 4
  | .retreating => 5 | .winddown => 6 | .aborting => 7 | .idle => 8

def StepKind.code : StepKind → Octet
  | .dwell => 0 | .crossing => 1

def Cause.code : Cause → Nat
  | .stop => 0 | .duration => 1 | .redistribute => 2 | .unbalanced => 3 | .strike => 4
  | .index => 5 | .sensor => 6 | .drive => 7 | .table => 8

/-- A cause that may be NONE, which is FFh. -/
def causeOctet : Option Cause → Octet
  | some c => u8 c.code
  | none => 0xFF

def StateReason.code : StateReason → Octet
  | .start => 0x00 | .weighed => 0x01 | .advance => 0x02 | .arrived => 0x03 | .filled => 0x04
  | .watch => 0x05 | .settled => 0x06 | .balance => 0x07 | .retreat => 0x08 | .cap => 0x09
  | .shortfall => 0x0A | .target => 0x0B | .stopped => 0x0C | .closing c => u8 (0x10 + c.code)

/-- A ramp direction; absent is FFh. -/
def dirOctet : Option Dir → Octet
  | some .up => 0
  | some .down => 1
  | none => 0xFF

def DecisionCode.code : DecisionCode → Octet
  | .advance => 0 | .balance => 1 | .retreat => 2 | .redistribute => 3 | .cap => 4 | .hold => 5
  | .unbalanced => 6

def CeilingCause.code : CeilingCause → Octet
  | .cap => 0 | .retreats => 1 | .shortfall => 2

/-- A weigh failure reason; none is 0. -/
def weighFailOctet : Option WeighFail → Octet
  | none => 0
  | some .saturated => 1
  | some .torque => 2
  | some .time => 3
  | some .speed => 4
  | some .limit => 5

def WeighPhase.code : WeighPhase → Octet
  | .off => 0 | .below => 1 | .accelerating => 2 | .steadying => 3 | .holding => 4

def LearnResult.code : LearnResult → Octet
  | .accepted => 0 | .displacement => 1 | .delivery => 2 | .ratio => 3 | .magnitude => 4

def Hit.code : Hit → Nat
  | .hit => 0 | .miss => 1 | .error => 2

/-- A hit history entry: step in bits 7 to 4, outcome in bits 1 to 0. -/
def HistoryEntry.octet (e : HistoryEntry) : Octet := u8 (e.step * 16 + e.outcome.code)

def TableSet.code : TableSet → Octet
  | .a => 0 | .b => 1

def FlushState.code : FlushState → Octet
  | .quiet => 0
  | .clearing _ _ false => 1
  | .clearing _ _ true => 2

/-- The clear position, FFh in QUIET (Status page 1). -/
def FlushState.posOctet : FlushState → Octet
  | .quiet => 0xFF
  | .clearing pos _ _ => u8 pos

def ChamberState.code : ChamberState → Octet
  | .empty => 0 | .holding => 1 | .bleeding => 2 | .filling => 3

def Origin.code : Origin → Octet
  | .planner => 0 | .service => 1

def EndReason.code : EndReason → Octet
  | .complete => 0 | .capacity => 1 | .replaced => 2 | .stopped => 3 | .speed => 4 | .supply => 5

/-- An end reason that may be NONE, which is FFh. -/
def endOctet : Option EndReason → Octet
  | some r => r.code
  | none => 0xFF

def Learned.code : Learned → Octet
  | .none => 0 | .accepted => 1 | .rejected => 2

/-! ## Marks of the trace queue (R182) -/

/-- The trace queue holds at most 32 records (R181). -/
def traceRoom : Nat := 32

/-- NEAR_EMPTY: n records or fewer. -/
def TraceQueue.nearEmpty (t : TraceQueue) : Bool := t.queue.length ≤ t.n

/-- NEAR_FULL: 32 − m records or more. -/
def TraceQueue.nearFull (t : TraceQueue) : Bool := traceRoom - t.m ≤ t.queue.length

/-- HALF: more than 16 records. -/
def TraceQueue.half (t : TraceQueue) : Bool := 16 < t.queue.length

/-- The marks octet of R184, R185 and Status page 3. -/
def TraceQueue.marksOctet (t : TraceQueue) : Octet := flagOctet [t.nearEmpty, t.nearFull, t.half]

/-- The trace flags octet: bit 0 enable ON, bit 1 delivery PUSH. -/
def TraceQueue.flagsOctet (t : TraceQueue) : Octet := flagOctet [t.enable, t.push]

/-- The force-baseline marks octet: bit 0 low, bit 1 high. -/
def Service.forceOctet (v : Service) : Octet := flagOctet [v.forceLow, v.forceHigh]

/-- The marks of a NO_PROFILE refusal (R96, R170): ladder, parameters, baseline complete for the loaded
ladder. With no ladder loaded the third bit, which R96 gives for the loaded ladder only, is sent 0 (log 35). -/
def State.profileMarks (s : State) : Octet :=
  flagOctet [!s.spin.ladder.isEmpty, s.spin.paramsLoaded,
    !s.spin.ladder.isEmpty && s.baselineComplete]

/-- Twelve marks as two octets, bit i for step i (Status page 1). -/
def marks16 (v : Vector Bool 12) : List Octet := u16 (flagBits v.toList)

end Sys2Proof.Machine
end

