-- ==== Sys2Proof/Machine/ChamberOps.lean ====
section
/-! DEFINITION. The Chamber Controller's operations (07): fill orders, the supply arbiter, metering, ends of orders, supply
and leak faults, bleed. An end of a planner order is handed to the Orbit Estimator here (R40, R148); the fill end is handed
to the Spin Controller by the callers. -/

namespace Sys2Proof.Machine

/-! ## Updates of the chamber records -/

def ChamberCtl.setContent (t : ChamberCtl) (c : Fin 4) (v : Nat) : ChamberCtl :=
  { t with chambers := t.chambers.set c { t.chambers[c] with content := v } }

def ChamberCtl.setLastEnd (t : ChamberCtl) (c : Fin 4) (r : EndReason) : ChamberCtl :=
  { t with chambers := t.chambers.set c { t.chambers[c] with lastEnd := some r } }

/-- The last end of every chamber of a list of orders (R140, R147). -/
def ChamberCtl.setLastEnds (t : ChamberCtl) (r : EndReason) : List Order → ChamberCtl
  | [] => t
  | o :: rest => (t.setLastEnd o.chamber r).setLastEnds r rest

/-! ## The pre-fill record's account of delivered water (R40) -/

def PreFill.add (p : PreFill) (c : Fin 4) (grams : Nat) : PreFill :=
  { p with delivered := p.delivered.set c (p.delivered[c] + grams) }

/-- R40: the end of a planner order, handed to the Orbit Estimator. -/
def Estimator.orderEnd (e : Estimator) (c : Fin 4) (grams : Nat) : EndReason → Estimator
  | .complete => { e with preFill := e.preFill.map (fun p => p.add c grams) }
  | .capacity => { e with preFill := e.preFill.map (fun p => p.add c grams) }
  | .supply => { e with preFill := e.preFill.map (fun p => p.add c grams) }
  | .speed => { e with preFill := none }
  | .stopped => { e with preFill := none }
  | .replaced => e

/-- R148: only planner orders are handed on. -/
def State.handEnd (s : State) (o : Order) (grams : Nat) (r : EndReason) : State :=
  match o.origin with
  | .planner => s.setEst (s.est.orderEnd o.chamber grams r)
  | .service => s

/-- R148: the dropped orders are handed on with delivered 0 and the same reason. -/
def State.handDropped (s : State) (r : EndReason) : List Order → State
  | [] => s
  | o :: rest => (s.handEnd o 0 r).handDropped r rest

/-! ## Ends of orders (R147) -/

/-- R147, an order that ends without having started: its FILL_END report with pulse count and
delivered 0, the orders dropped with it listed, and the hand-on of R148. -/
def State.endUnstarted (s : State) (o : Order) (r : EndReason) (dropped : List Order) : State :=
  let s1 := s.setCham ((s.cham.setLastEnd o.chamber r).setLastEnds r dropped)
  let s2 := giveReport (.fillEnd ⟨o, 0, 0, r, s.cham.content o.chamber, dropped⟩) s1
  (s2.handEnd o 0 r).handDropped r dropped

/-- R147: the order in flight ends: its groove valve closes and the supply timer stops, its last end
and the FILL_END report are given, and the end is handed on (R148). -/
def State.endFlight (s : State) (r : EndReason) (dropped : List Order) : State :=
  match s.cham.flight with
  | none => s
  | some f =>
    let t := (s.cham.setLastEnd f.order.chamber r).setLastEnds r dropped
    let s1 := s.setCham { t with flight := none, supplyTimer := none }
    let s2 := giveReport
      (.fillEnd ⟨f.order, f.pulses, f.delivered, r, s.cham.content f.order.chamber, dropped⟩) s1
    (s2.handEnd f.order f.delivered r).handDropped r dropped

/-! ## The supply arbiter (R145) -/

/-- R145, the start of an order whose amount has been clamped: start content, counts at 0, valves
open, supply timer running. -/
def ChamberCtl.startOrder (t : ChamberCtl) (now : Stamp) (ms : Nat) (o : Order) : ChamberCtl :=
  { t with flight := some ⟨o, t.content o.chamber, 0, 0⟩, supplyTimer := some (msTimer now ms) }

/-- R145: the oldest queued order whose clamped amount is not 0 starts; the ones before it end
CAPACITY. -/
def State.startFrom (s : State) : List Order → State
  | [] => s.setCham { s.cham with queue := [] }
  | o :: rest =>
    let amount := min o.amount (s.cham.room o.chamber)
    if amount = 0 then (s.endUnstarted { o with amount := 0 } .capacity []).startFrom rest
    else
      s.setCham ({ s.cham with queue := rest }.startOrder s.time s.spin.par.supplyTimeout
        { o with amount := amount })

/-- R145: the arbiter, when no order is in flight. -/
def State.startNext (s : State) : State :=
  if s.cham.flight.isSome then s else s.startFrom s.cham.queue

/-- R153: SUPV closing sets the leak count to 0; it closes when no order is in flight any more. -/
def State.lineClosed (s : State) : State :=
  if s.cham.flight.isSome then s else s.setCham { s.cham with leak := 0 }

/-- The order in flight ends for the given reason and the arbiter goes on (R145, R147). -/
def State.endAndGoOn (s : State) (r : EndReason) : State :=
  if s.cham.flight.isSome then ((s.endFlight r []).startNext).lineClosed else s

/-- The order in flight ends and every queued order is removed and ends with it (R149, R150, R152). -/
def State.endAll (s : State) (r : EndReason) : State :=
  if s.cham.flight.isSome then
    let s1 := s.setCham { s.cham with queue := [] }
    (s1.endFlight r s.cham.queue).lineClosed
  else s

/-- R150: whether the order in flight is the planner's. -/
def ChamberCtl.plannerInFlight (t : ChamberCtl) : Bool :=
  match t.flight with
  | some f => f.order.origin = .planner
  | none => false

/-- R149: the Spin Controller asks to stop the plan's fills. When no order is in flight the request
changes nothing. -/
def State.stopPlanFills (s : State) : State := s.endAll .stopped

/-- The number of orders the Chamber Controller holds, in flight and queued. -/
def ChamberCtl.orderCount (t : ChamberCtl) : Nat :=
  (if t.flight.isSome then 1 else 0) + t.queue.length

/-! ## Taking an order (R144) -/

/-- What became of a new order (R193). -/
inductive FillOutcome where
  | merged | replaced | started | queued | full
  deriving DecidableEq, Repr

def FillOutcome.code : FillOutcome → Octet
  | .merged => 0 | .replaced => 1 | .started => 2 | .queued => 3 | .full => 4

/-- R144: the case of a new order. -/
def State.orderCase (s : State) (o : Order) : FillOutcome :=
  if min o.amount (s.cham.room o.chamber) = 0 then .full
  else if s.cham.queue.any (fun q => q.chamber = o.chamber) then .merged
  else if s.cham.fillingChamber o.chamber then .replaced
  else if s.cham.flight.isSome then .queued
  else .started

/-- R144: the order as clamped to the room at this moment. -/
def State.clampOrder (s : State) (o : Order) : Order :=
  { o with amount := min o.amount (s.cham.room o.chamber) }

/-- R144: a queued order takes the new amount and origin and keeps its place. -/
def mergeOrder (o : Order) (queue : List Order) : List Order :=
  queue.map (fun q => if q.chamber = o.chamber then o else q)

/-- R144: a new order is taken. -/
def State.takeOrder (s : State) (o : Order) : State :=
  let o1 := s.clampOrder o
  match s.orderCase o with
  | .full =>
    let gone := s.cham.queue.filter (fun q => q.chamber = o.chamber)
    let kept := s.cham.queue.filter (fun q => q.chamber ≠ o.chamber)
    (s.setCham { s.cham with queue := kept }).endUnstarted o1 .capacity gone
  | .merged => s.setCham { s.cham with queue := mergeOrder o1 s.cham.queue }
  | .replaced =>
    let s1 := s.endFlight .replaced []
    s1.setCham { s1.cham with
      flight := some ⟨o1, s1.cham.content o1.chamber, 0, 0⟩, supplyTimer := s.cham.supplyTimer }
  | .queued => s.setCham { s.cham with queue := s.cham.queue ++ [o1] }
  | .started => (s.setCham { s.cham with queue := s.cham.queue ++ [o1] }).startNext

/-- R158: the orders of a plan join the queue in turn. -/
def State.takeOrders (s : State) : List Order → State
  | [] => s
  | o :: rest => (s.takeOrder o).takeOrders rest

/-! ## Metering and leaks (R146, R153) -/

/-- R146: a pulse counted for the order in flight: delivered amount, content, supply timer (R152). -/
def ChamberCtl.meter (t : ChamberCtl) (now : Stamp) (p : Params) (f : Flight) : ChamberCtl :=
  let delivered := (f.pulses + 1) * 10 / p.flowCal
  let c := f.order.chamber
  let t1 := t.setContent c (min capacity (t.content c + (delivered - f.delivered)))
  { t1 with
    flight := some { f with pulses := f.pulses + 1, delivered := delivered }
    supplyTimer := some (msTimer now p.supplyTimeout) }

/-- R146: the COMPLETE test and then the CAPACITY test on the order in flight. -/
def ChamberCtl.fillDone (t : ChamberCtl) : Option EndReason :=
  match t.flight with
  | none => none
  | some f =>
    if f.order.amount ≤ f.delivered then some .complete
    else if capacity ≤ t.content f.order.chamber then some .capacity
    else none

/-- R153: the leak fault is declared when the count comes from 19 to 20. -/
def leakLimit : Nat := 20

/-- R153: a pulse taken with no order in flight. -/
def State.leakPulse (s : State) : State :=
  let n := countUp 255 s.cham.leak
  let t := { s.cham with leak := n }
  if s.cham.leak + 1 = leakLimit then
    giveReport (.fault (.leak n))
      (s.setCham { t with balancer := false, pendingFault := some (.leak n) })
  else s.setCham t

/-! ## Bleed (R142) -/

/-- R142: the content of a chamber after a bleed expiry below hold_speed: a planner's filling chamber
loses nothing. -/
def ChamberCtl.bled (t : ChamberCtl) (grams : Nat) (c : Fin 4) : Nat :=
  if t.fillingChamber c && t.plannerInFlight then t.content c else t.content c - grams

/-- R142: every chamber bleeds. -/
def ChamberCtl.bleedAll (t : ChamberCtl) (grams : Nat) : ChamberCtl :=
  (((t.setContent 0 (t.bled grams 0)).setContent 1 (t.bled grams 1)).setContent 2
    (t.bled grams 2)).setContent 3 (t.bled grams 3)

/-! ## Restart (R160) -/

/-- The last end STOPPED of the chambers whose orders a Restart ends. -/
def ChamberCtl.stopMarks (t : ChamberCtl) : ChamberCtl :=
  match t.flight with
  | some f => (t.setLastEnd f.order.chamber .stopped).setLastEnds .stopped t.queue
  | none => t.setLastEnds .stopped t.queue

/-- R160: no FILL_END report; valves closed, queue empty, leak count 0, pending fault absent. -/
def ChamberCtl.restart (t : ChamberCtl) : ChamberCtl :=
  { t.stopMarks with
    queue := [], flight := none, supplyTimer := none, leak := 0, pendingFault := none }

end Sys2Proof.Machine
end

