-- ==== Sys2Proof/Machine/TableOps.lean ====
section
/-! DEFINITION. The Influence Table's operations (04): checks, marks, lookups, flushes, the background clear, learned
stores and deposits. -/

namespace Sys2Proof.Machine

/-! ## Slots and check values (R61, R62) -/

/-- The slot that holds nothing: the value of a number no slot has (log 25). -/
def Slot.blank : Slot := ⟨0, ⟨0, 0⟩, 0⟩

/-- A slot written with the check value that agrees (R62). -/
def Slot.sound (tag : Fin 4) (k : Pair) : Slot := ⟨tag, k, Config.checkValue tag k⟩

/-- A slot written with a check value that differs from the computed one (R62, R86); which one is
free (log 7). -/
def Slot.wrong (tag : Fin 4) (k : Pair) : Slot :=
  ⟨tag, k, Config.checkValue tag k + BitVec.ofNat 16 (1 + Config.wrongCheckOffset tag k % 65535)⟩

/-- Whether a slot's check agrees (R62). -/
def Slot.agrees (t : Slot) : Bool := t.check = Config.checkValue t.tag t.k

def Table.slot (t : Table) (i : Nat) : Slot := tget t.slots i .blank

/-- The baseline entry of a step and a class (R64). -/
def Table.entry (t : Table) (i : Nat) (c : Fin 4) : Pair :=
  (tget t.baseline i (Vector.replicate 4 ⟨0, 0⟩))[c]

/-! ## The two sets of valid marks (R63) -/

def TableSet.other : TableSet → TableSet
  | .a => .b
  | .b => .a

def Table.marks (t : Table) : TableSet → Vector Bool 12
  | .a => t.marksA
  | .b => t.marksB

def Table.setMarks (t : Table) (v : Vector Bool 12) : TableSet → Table
  | .a => { t with marksA := v }
  | .b => { t with marksB := v }

/-- Slot i's mark in a set made to be `b`. -/
def Table.mark (t : Table) (set : TableSet) (i : Nat) (b : Bool) : Table :=
  t.setMarks (tset (t.marks set) i b) set

/-- A slot is valid when its mark is set in the active set (R63). -/
def Table.valid (t : Table) (i : Nat) : Bool := tget (t.marks t.active) i false

/-- Slot i written and marked in the active set (R72, R84). -/
def Table.store (t : Table) (i : Nat) (c : Fin 4) (k : Pair) : Table :=
  ({ t with slots := tset t.slots i (Slot.sound c k) }).mark t.active i true

/-! ## Flushing and the background clear (R77 to R80) -/

/-- The switch of the sets, with a new background clear from slot 0 (R77, R80). -/
def Table.switch (t : Table) (now : Stamp) : Table :=
  { t with active := t.active.other, flush := .clearing 0 (msTimer now clearMs) false }

/-- A flush (R77, R79). -/
def Table.flushNow (t : Table) (now : Stamp) : Table :=
  match t.flush with
  | .quiet => t.switch now
  | .clearing pos timer false => { t with flush := .clearing pos timer true }
  | .clearing _ _ true => t

/-- One clear expiry (R78); the last one ends the clear, or switches the sets when a flush is pending
(R80). -/
def Table.clearStep (t : Table) (now : Stamp) : Table :=
  match t.flush with
  | .quiet => t
  | .clearing pos timer flushPending =>
    let t1 := t.mark t.active.other pos false
    if pos < 11 then { t1 with flush := .clearing (pos + 1) timer.again flushPending }
    else if flushPending then t1.switch now
    else { t1 with flush := .quiet }

/-- The clear timer, when a clear is in progress (R78). -/
def FlushState.timer : FlushState → Option Timer
  | .quiet => none
  | .clearing _ timer _ => some timer

/-- Whether a flush is pending (R79). -/
def FlushState.isPending : FlushState → Bool
  | .quiet => false
  | .clearing _ _ p => p

/-- Whether a background clear is in progress (R78). -/
def FlushState.isClearing : FlushState → Bool
  | .quiet => false
  | .clearing _ _ _ => true

/-! ## Loading the baseline (R64, R66) -/

/-- R66: the four entries of a step, its loaded mark, and its slot's marks in both sets. -/
def Table.loadEntries (t : Table) (i : Nat) (ks : Vector Pair 4) : Table :=
  (({ t with baseline := tset t.baseline i ks, loaded := tset t.loaded i true }).mark .a i false).mark
    .b i false

/-- R64, R92: every entry (0, 0) and every loaded mark clear. -/
def Table.dropBaseline (t : Table) : Table :=
  { t with
    baseline := Vector.replicate 12 (Vector.replicate 4 ⟨0, 0⟩)
    loaded := Vector.replicate 12 false }

/-! ## Restart and deposits (R86, R87) -/

/-- R87. -/
def Table.restart (t : Table) : Table :=
  { t with
    marksA := Vector.replicate 12 false
    marksB := Vector.replicate 12 false
    active := .a
    flush := .quiet
    history := [] }

/-- The valid choices of a Deposit (R86). -/
inductive ValidChoice where
  | none | active | standby
  deriving DecidableEq, Repr

/-- R86: a Deposit writes the slot and sets its marks by the valid choice. DEDUCED (log 37): a NONE Deposit leaves the
other set's mark as it is, as R86's table has it, so that a STANDBY Deposit before it may make the slot valid at a switch
with whatever coefficient the NONE Deposit wrote, where R61, R67 and R191 speak of no such slot. -/
def Table.deposit (t : Table) (i : Nat) (slot : Slot) (choice : ValidChoice) : Table :=
  let t1 := { t with slots := tset t.slots i slot }
  match choice with
  | .none => t1.mark t.active i false
  | .active => t1.mark t.active i true
  | .standby => t1.mark t.active.other i true

/-! ## Lookups (R67 to R76) -/

/-- R76: the hit history holds up to 6 entries, newest first. -/
def Table.remember (t : Table) (i : Nat) (h : Hit) : Table :=
  { t with history := (⟨i, h⟩ :: t.history).take 6 }

/-- R69: whether the force-baseline mark covering a step is set. -/
def State.forced (s : State) (i : Nat) : Bool :=
  if s.spin.speedOf i < s.spin.par.holdSpeed then s.serv.forceLow else s.serv.forceHigh

/-- The cases of a lookup, in the order of R67. -/
inductive LookupCase where
  | forced | flushPending | hit | integrityError | miss
  deriving DecidableEq, Repr

/-- R67: the first case that applies. -/
def State.lookupCase (s : State) (i : Nat) (c : Fin 4) : LookupCase :=
  let sl := s.table.slot i
  if s.forced i then .forced
  else if s.table.flush.isPending then .flushPending
  else if s.table.valid i ∧ sl.tag = c ∧ sl.agrees then .hit
  else if s.table.valid i ∧ sl.tag = c then .integrityError
  else .miss

/-- R72: the writing of a miss. -/
def State.fillSlot (s : State) (i : Nat) (c : Fin 4) : State :=
  s.setTable (s.table.store i c (s.table.entry i c))

/-- R73 to R75: an integrity error, by table_error_response. -/
def State.integrityError (s : State) (i : Nat) (c : Fin 4) : State × Option Pair :=
  let k := (s.table.slot i).k
  let e := s.table.entry i c
  let s1 := s.setTable (s.table.remember i .error)
  match s.spin.par.errorResponse with
  | 0 => (s1.fillSlot i c, some e)
  | 1 => (giveReport (.tableError ⟨i, c, 1, k, some e⟩) (s1.fillSlot i c), some e)
  | _ => (giveReport (.tableError ⟨i, c, 2, k, none⟩) s1, none)

/-- R67: one lookup of step i for class c: the coefficient, or none when it ends the session. -/
def State.lookup (s : State) (i : Nat) (c : Fin 4) : State × Option Pair :=
  match s.lookupCase i c with
  | .forced => (s.setTable (s.table.remember i .miss), some (s.table.entry i c))
  | .flushPending => (s.setTable (s.table.remember i .miss), some (s.table.entry i c))
  | .hit => (s.setTable (s.table.remember i .hit), some (s.table.slot i).k)
  | .integrityError => s.integrityError i c
  | .miss => ((s.setTable (s.table.remember i .miss)).fillSlot i c, some (s.table.entry i c))

/-- A coefficient with its step, as a decision holds it. -/
structure StepK where
  step : Nat
  k : Pair
  deriving DecidableEq, Repr

/-- R67, R100: the lookups of a decision, one at a time in increasing order of step; none as soon as
one ends the session. -/
def State.lookups (s : State) (c : Fin 4) : List Nat → State × Option (List StepK)
  | [] => (s, some [])
  | i :: rest =>
    match s.lookup i c with
    | (s1, none) => (s1, none)
    | (s1, some k) =>
      match s1.lookups c rest with
      | (s2, none) => (s2, none)
      | (s2, some ks) => (s2, some (⟨i, k⟩ :: ks))

/-! ## Learned coefficients (R82 to R85) -/

/-- R83: the handling of a learning outcome for the session's class: discarded when forced or
pending, otherwise stored when accepted (R84), and reported (R85). -/
def State.takeLearned (s : State) (c : Fin 4) (o : LearnOutcome) : State :=
  if s.forced o.step || s.table.flush.isPending then s
  else
    let s1 :=
      match o.kNew with
      | some k => s.setTable (s.table.store o.step c k)
      | none => s
    giveReport (.learned ⟨c, o⟩) s1

end Sys2Proof.Machine
end

