-- ==== Sys2Proof/Machine/WeighOps.lean ====
section
/-! DEFINITION. The Weigh Unit's operations (03): the climb, the hold, the computation of the class, failures. -/

namespace Sys2Proof.Machine

/-- R47: a weighing begins. -/
def Weigh.begin (now : Stamp) : Weigh :=
  { Weigh.reset with phase := .below, limit := some (msTimer now weighLimitMs) }

/-- R58: a weighing ends without a result. -/
def Weigh.discard (w : Weigh) : Weigh := { Weigh.reset with result := w.result }

/-! ## The climb (R48 to R50) -/

/-- R49: the test against weigh_high. -/
def Weigh.endTest (p : Params) (now : Stamp) (v : Nat) (w : Weigh) : Weigh :=
  if p.weighHigh ≤ v then { w with t2 := some ⟨now, v⟩, phase := .steadying } else w

/-- R48, R49: a slot edge with its stamp and slot speed reaches the Weigh Unit. -/
def Weigh.slotEdge (p : Params) (now : Stamp) (v : Nat) (w : Weigh) : Weigh :=
  match w.phase with
  | .below =>
    if p.weighLow ≤ v then
      { w with t1 := some ⟨now, v⟩, phase := .accelerating }.endTest p now v
    else w
  | .accelerating => w.endTest p now v
  | .off => w
  | .steadying => w
  | .holding => w

/-- R48 to R50: whether the torque sample of a slot edge enters the acceleration sum. -/
def Weigh.climbSample (p : Params) (v : Nat) (w : Weigh) : Bool :=
  match w.phase with
  | .below => p.weighLow ≤ v
  | .accelerating => true
  | .off => false
  | .steadying => false
  | .holding => false

/-- The full scale of a torque sample, 20,000 mN·m (R23). -/
def fullScale : Nat := 20000

/-- R50: a sample enters the acceleration sum. -/
def Weigh.addAccel (t : Nat) (w : Weigh) : Weigh :=
  { w with
    accSum := w.accSum + t
    nAcc := countUp 65535 w.nAcc
    saturated := w.saturated || t == fullScale }

/-- R50, R52: a sample enters the hold sum. -/
def Weigh.addHold (t : Nat) (w : Weigh) : Weigh :=
  { w with
    holdSum := w.holdSum + t
    nHold := countUp 65535 w.nHold
    saturated := w.saturated || t == fullScale }

/-! ## The hold (R51, R52) -/

/-- R51: a revolution is stable for weighing. -/
def stableForWeighing (p : Params) (r : RevRecord) : Bool :=
  r.wellTimed && p.weighHigh * 49 ≤ r.speed * 50 && r.speed * 50 ≤ p.weighHigh * 51

/-- R51, R52: a revolution record is taken in STEADYING or HOLDING. -/
def Weigh.takeRecord (p : Params) (r : RevRecord) (w : Weigh) : Weigh :=
  match w.phase with
  | .steadying =>
    if stableForWeighing p r then
      if w.stable + 1 = 2 then
        { w with stable := 2, phase := .holding, holdSum := 0, nHold := 0, holdRevs := 0 }
      else { w with stable := w.stable + 1 }
    else { w with stable := 0 }
  | .holding =>
    if stableForWeighing p r then { w with holdRevs := w.holdRevs + 1 }
    else { w with phase := .steadying, stable := 0, holdSum := 0, nHold := 0, holdRevs := 0 }
  | .off => w
  | .below => w
  | .accelerating => w

/-- R52: the fourth stable hold revolution completes the weighing. -/
def Weigh.isComplete (w : Weigh) : Bool := w.phase = .holding && w.holdRevs = 4

/-! ## The class (R53 to R55) -/

/-- R53, R57: a mean with its count; not formed when the count is 0. -/
def meanOf (sum n : Nat) : Option MeanCount := if n = 0 then none else some ⟨sum / n, n⟩

/-- R53: T_acc, absent when t1 was not reached or n_acc is 0 (R57). -/
def Weigh.tAcc (w : Weigh) : Option MeanCount :=
  match w.t1 with
  | some _ => meanOf w.accSum w.nAcc
  | none => none

/-- R53: T_hold. -/
def Weigh.tHold (w : Weigh) : Option MeanCount := meanOf w.holdSum w.nHold

/-- R53: Δt in ms, absent when t2 was not reached (R56). -/
def Weigh.dt (w : Weigh) : Option Nat :=
  match w.t1, w.t2 with
  | some a, some b => some (interval b.stamp a.stamp / 1000)
  | _, _ => none

/-- R55: the class of a load inertia. -/
def classOf (p : Params) (load : Nat) : Fin 4 :=
  if load < p.threshold1 then 0
  else if load < p.threshold2 then 1
  else if load < p.threshold3 then 2
  else 3

/-- R53: J from ΔT, Δt and Δrpm. -/
def inertiaJ (dT dt dRpm : Nat) : Nat := dT * dt * 626 / (65536 * dRpm)

/-- The judgement of a weighing at completion: the first failing test of R54, or J. -/
def Weigh.judge (w : Weigh) : Except WeighFail Nat :=
  if w.saturated then .error .saturated
  else if w.nAcc = 0 ∨ w.nHold = 0 then .error .torque
  else
    let v1 := (w.t1.map ClimbEdge.speed).getD 0
    let v2 := (w.t2.map ClimbEdge.speed).getD 0
    let dt := w.dt.getD 0
    let tA := w.accSum / w.nAcc
    let tH := w.holdSum / w.nHold
    if v2 ≤ v1 then .error .speed
    else if dt < 200 ∨ 10000 < dt then .error .time
    else if tA ≤ tH then .error .torque
    else .ok (inertiaJ (tA - tH) dt (v2 - v1))

/-- The measurements a WEIGHED report carries (R57). -/
def Weigh.report (w : Weigh) (cls : Fin 4) (fail : Option WeighFail)
    (jl : Option (Nat × Nat)) (hold : Option MeanCount) : WeighedReport :=
  { cls := cls, fail := fail, inertiaJ := jl, acc := w.tAcc, hold := hold, dt := w.dt,
    w1 := w.t1.map ClimbEdge.speed, w2 := w.t2.map ClimbEdge.speed }

/-- R57, step 1: the result is stored, the phase is OFF and the limit stops. -/
def Weigh.close (w : Weigh) (r : WeighResult) : Weigh :=
  { w with phase := .off, limit := none, result := r }

/-- R53 to R55: the end of a weighing that completes: the record after it and the WEIGHED report. -/
def Weigh.complete (p : Params) (w : Weigh) : Weigh × WeighedReport :=
  match w.judge with
  | .error why => (w.close (.failed why), w.report 3 (some why) none w.tHold)
  | .ok j =>
    let load := j - p.basketInertia
    let c := classOf p load
    (w.close (.weighed c load), w.report c none (some (load, j)) w.tHold)

/-- R56: the end of a weighing at the weigh limit. T_hold is not formed. -/
def Weigh.limitEnd (w : Weigh) : Weigh × WeighedReport :=
  (w.close (.failed .limit), w.report 3 (some .limit) none none)

end Sys2Proof.Machine
end

