-- ==== Sys2Proof/Machine/SpinOps.lean ====
section
/-! DEFINITION. The Spin Controller's changes of state (06): STATE reports, ramps, settling, closing a session, the ceiling,
and what each change makes the other blocks do. -/

namespace Sys2Proof.Machine

/-! ## Changing the spin state (R114) -/

/-- R114: the spin state changes and the STATE report is given, with the state as it then stands. -/
def State.enter (s : State) (new : SpinState) (reason : StateReason) : State :=
  let sp := { s.spin with state := new }
  giveReport
    (.state { new := new, prev := s.spin.state, reason := reason, dwell := sp.dwell,
              dest := sp.dest, dir := sp.dir, target := sp.target, ceiling := sp.ceiling,
              demand := sp.demand })
    (s.setSpin sp)

/-- R33: the window is emptied and the measuring count set to 0. -/
def Estimator.emptied (e : Estimator) : Estimator := { e with window := [], m := 0 }

/-- R47, R25, R58: a torque sample still to come of before a session or a Restart, or for a weighing that is discarded
(log 21), enters no sum. -/
def Conversion.dropSums (c : Conversion) : Conversion :=
  match c.dest with
  | .accel => { c with dest := .nowhere }
  | .hold => { c with dest := .nowhere }
  | .pending => c
  | .nowhere => c

def Sampler.dropSums (m : Sampler) : Sampler := { m with conv := m.conv.map Conversion.dropSums }

/-- R58: leaving WEIGHING for WINDDOWN or ABORTING discards the weighing. -/
def State.discardWeighing (s : State) : State :=
  if s.spin.state = .weighing then
    (s.setWeigh s.weigh.discard).setSamp s.samp.dropSums
  else s

/-- What leaving a state for RAMPING, RETREATING, WINDDOWN or ABORTING does in the other blocks: the
plan's fills stop when BALANCING is left (R135), and the window and the pre-fill record are dropped
(R33, R41). -/
def State.leavePlateau (s : State) : State :=
  let s1 := if s.spin.state = .balancing then s.stopPlanFills else s
  s1.setEst { s1.est.emptied with preFill := none }

/-! ## Ramps (R118) -/

/-- R118: the allowance of a ramp in ms. -/
def rampAllowanceMs (allowance dest from_ : Nat) : Nat :=
  allowance * (max dest from_ - min dest from_) / 100 + 2000

/-- R118: the direction of a ramp that is not bound to one. -/
def State.rampDir (s : State) (i : Nat) : Dir :=
  if s.rot.speed < s.spin.speedOf i then .up else .down

/-- R118: destination, demand, direction, ramp count and ramp timer of a ramp to step i. -/
def State.setRamp (s : State) (i : Nat) (dir : Dir) : State :=
  s.setSpin { s.spin with
    dest := some i
    dir := some dir
    demand := s.spin.speedOf i
    rampCount := 0
    rampTimer := some
      (msTimer s.time (rampAllowanceMs s.spin.par.rampAllowance (s.spin.speedOf i) s.rot.speed)) }

/-- R99: the plan count is 0 when the dwell step is left for RAMPING or RETREATING. -/
def State.noPlans (s : State) : State := s.setSpin { s.spin with plans := 0 }

/-- R118: a ramp in RAMPING starts. -/
def State.startRamping (s : State) (i : Nat) (dir : Dir) (reason : StateReason) : State :=
  ((s.leavePlateau.setRamp i dir).noPlans).enter .ramping reason

/-- R118: a ramp in RETREATING starts; it is always DOWN. -/
def State.startRetreating (s : State) (i : Nat) (reason : StateReason) : State :=
  ((s.leavePlateau.setRamp i .down).noPlans).enter .retreating reason

/-- R111, R118: no ramp in flight. -/
def Spin.noRamp (p : Spin) : Spin := { p with dest := none, dir := none, rampTimer := none }

/-- R117, R118: the end of weighing: an UP ramp to step 0. -/
def State.rampFromWeighing (s : State) : State := s.startRamping 0 .up .weighed

/-! ## Plateaus (R120, R121, R123) -/

/-- R120: a completed ramp ends at step i and SETTLING is entered. -/
def State.arrive (s : State) (i : Nat) : State :=
  (s.setSpin { s.spin.noRamp with dwell := some i, settle := 0 }).enter .settling .arrived

/-- R123: the fill end: SETTLING at the current step. -/
def State.fillEnd (s : State) : State :=
  if s.spin.state = .balancing then
    (s.setSpin { s.spin with settle := 0 }).enter .settling .filled
  else s

/-- R148: the end of a planner order that left the queue empty with no order in flight is a fill
end. -/
def State.fillEndIfDone (s : State) (planner : Bool) : State :=
  if planner && s.cham.queue.isEmpty && s.cham.flight.isNone then s.fillEnd else s

/-- R145, R148: the order in flight ends, the arbiter goes on, and the fill end follows when it was the
plan's last. -/
def State.finishOrder (s : State) (r : EndReason) : State :=
  (s.endAndGoOn r).fillEndIfDone s.cham.plannerInFlight

/-- R150: the planner's orders end SPEED, and that is a fill end. -/
def State.speedEnd (s : State) : State :=
  (s.endAll .speed).fillEndIfDone s.cham.plannerInFlight

/-- R150: the current speed has come from `old` to what it now is. A planner order in flight ends
SPEED when it has become lower than hold_speed (log 19). -/
def State.speedChanged (s : State) (old : Nat) : State :=
  match s.spin.params with
  | some p =>
    if p.holdSpeed ≤ old ∧ s.rot.speed < p.holdSpeed ∧ s.cham.plannerInFlight then s.speedEnd
    else s
  | none => s

/-! ## Closing a session (R134, R136, R138) -/

/-- R138: the session ends in WINDDOWN or ABORTING with the stopped mark set. -/
def State.endSession (s : State) : State :=
  let sp := s.spin
  let s1 := s.setSpin
    { sp with den := false, brk := false, demand := 0, lastEnd := sp.closing, closing := none }
  let s2 := s1.enter .idle .stopped
  let s3 := giveReport
    (.sessionEnd ⟨sp.closing, sp.dwell, sp.ceiling, sp.attempts, sp.retreats⟩) s2
  s3.setEst { s3.est.emptied with latest := none, preFill := none }

/-- R138: the entry to WINDDOWN or ABORTING with the stopped mark already set ends the session. -/
def State.endIfStopped (s : State) : State := if s.rot.stopped then s.endSession else s

/-- R111: what both closing states have in common: no ramp, no session timer, demand 0. -/
def Spin.closed (p : Spin) (c : Cause) : Spin :=
  { p.noRamp with sessionTimer := none, closing := some c, demand := 0 }

/-- R136: entry to WINDDOWN from an active state. -/
def State.enterWinddown (s : State) (c : Cause) : State :=
  let s1 := s.leavePlateau.discardWeighing
  ((s1.setSpin (s1.spin.closed c)).enter .winddown (.closing c)).endIfStopped

/-- R134: entry to ABORTING from an active state or WINDDOWN. -/
def State.enterAborting (s : State) (c : Cause) : State :=
  let s1 := s.leavePlateau.discardWeighing
  ((s1.setSpin { s1.spin.closed c with den := false, brk := true }).enter .aborting
    (.closing c)).endIfStopped

/-- R131, R133: a fault event moves an active state or WINDDOWN to ABORTING; in ABORTING and in IDLE
it changes nothing here. -/
def State.abortOn (s : State) (c : Cause) : State :=
  if s.spin.state.active || s.spin.state == .winddown then s.enterAborting c else s

/-! ## The ceiling (R98, R108) -/

/-- R98: the demand and the ramp destination are lowered with the ceiling. -/
def Spin.capTo (p : Spin) (new : Nat) : Spin :=
  { p with
    ceiling := some new
    demand := min p.demand (p.speedOf new)
    dest := p.dest.map (fun i => min i new) }

/-- R98, R108: the ceiling is lowered and the CEILING report given. -/
def State.lowerCeiling (s : State) (new : Nat) (cause : CeilingCause) : State :=
  giveReport (.ceiling ⟨new, s.spin.ceiling, cause, s.spin.dwell, s.spin.target⟩)
    (s.setSpin (s.spin.capTo new))

/-! ## Fault events of the sampler and the timer (R22) -/

/-- R22: a strike outside IDLE aborts the session; in IDLE it is reported when the idle-strike mark is
clear, and sets it. -/
def State.strikeEvent (s : State) (x y : Int) (magnitude : Nat) : State :=
  if s.spin.state = .idle then
    if s.samp.idleStrike then s
    else giveReport (.fault (.strike s.rot.counter x y magnitude))
      (s.setSamp { s.samp with idleStrike := true })
  else s.abortOn .strike

/-- R22: a sensor fault. -/
def State.sensorEvent (s : State) : State :=
  if s.spin.state = .idle then
    giveReport (.fault (.sensor s.rot.counter s.samp.invalidRun)) s
  else s.abortOn .sensor

/-- R22: an index loss. -/
def State.indexLossEvent (s : State) : State :=
  if s.spin.state = .idle then giveReport (.fault (.index s.rot.counter)) s
  else s.abortOn .index

/-- R132, R138: the stopped event by spin state. -/
def State.stoppedEvent (s : State) : State :=
  match s.spin.state with
  | .settling => s.enterAborting .drive
  | .measuring => s.enterAborting .drive
  | .balancing => s.enterAborting .drive
  | .ramping => s.enterAborting .drive
  | .retreating => s.enterAborting .drive
  | .weighing => s
  | .winddown => s.endSession
  | .aborting => s.endSession
  | .idle => s

end Sys2Proof.Machine
end

