-- ==== Sys2Proof/Machine/DecisionOps.lean ====
section
/-! DEFINITION. The decision event (02 R29 to R37, 05 R100 to R109, 06 R122): windows, learning, lookups, the tests in their
order, the outcomes and their reports. -/

namespace Sys2Proof.Machine

/-! ## The choice (R101 to R104) -/

/-- Outcomes of a decision, with CAP by its cause (R102, R103). -/
inductive Choice where
  | advance (d : Nat)
  | balance (orders : List Order)
  | retreat
  | capHere
  | capRetreats
  | redistribute
  | hold
  | unbalanced
  deriving DecidableEq, Repr

/-- A choice and the test that decided, in the code of 11.3. -/
structure Decided where
  choice : Choice
  test : Nat
  deriving DecidableEq, Repr

/-- R107: the outcome a DECISION report names. -/
def Choice.code : Choice → DecisionCode
  | .advance _ => .advance
  | .balance _ => .balance
  | .retreat => .retreat
  | .capHere => .cap
  | .capRetreats => .cap
  | .redistribute => .redistribute
  | .hold => .hold
  | .unbalanced => .unbalanced

/-- R101: the margin P(x) − L(x) of a prediction. -/
def Spin.margin (p : Spin) (q : Prediction) : Int := (q.p : Int) - p.limitOf q.step

/-- R101: the worst margin with its step, the lowest step with the largest margin. -/
def Spin.worstMargin (p : Spin) : List Prediction → Option (Nat × Int)
  | [] => none
  | q :: rest =>
    match p.worstMargin rest with
    | none => some (q.step, p.margin q)
    | some (i, m) => if m ≤ p.margin q then some (q.step, p.margin q) else some (i, m)

/-- R101: the permit holds when P(x) ≤ L(x) for every step x of the climb. -/
def Spin.permit (p : Spin) (qs : List Prediction) : Bool :=
  qs.all (fun q => q.p ≤ p.limitOf q.step)

/-- R102 test 1, R104: the outcome of an excursion beyond L(s). -/
def Spin.excursionChoice (p : Spin) (s : Nat) : Choice :=
  if 0 < s then (if p.retreats < p.par.maxRetreats then .retreat else .capRetreats)
  else (if p.attempts < p.par.maxAttempts then .redistribute else .unbalanced)

/-- R103 test 4, R104: whether the planner may be asked. -/
def State.mayPlan (s : State) (i : Nat) : Bool :=
  s.spin.par.holdSpeed ≤ s.spin.speedOf i && s.cham.balancer && s.spin.plans < s.spin.par.maxPlans

/-- R103 test 4: the plan, when the planner may be asked. -/
def State.planFor (s : State) (i : Nat) (u : Pair) : List Order :=
  if s.mayPlan i then s.plan u else []

/-- R102, R103: a climb decision at step i towards d. -/
def State.climbChoice (s : State) (i d magA size : Nat) (u : Pair) (qs : List Prediction) :
    Decided :=
  let p := s.spin.par
  let orders := s.planFor i u
  if s.spin.limitOf i < magA then ⟨s.spin.excursionChoice i, 1⟩
  else if i = 0 ∧ p.redistThreshold < size then
    ⟨if s.spin.attempts < p.maxAttempts then .redistribute else .capHere, 2⟩
  else if s.spin.permit qs then ⟨.advance d, 3⟩
  else if orders ≠ [] then ⟨.balance orders, 4⟩
  else if s.spin.speedOf i < p.holdSpeed ∧ s.spin.attempts < p.maxAttempts then
    ⟨.redistribute, 5⟩
  else ⟨.capHere, 6⟩

/-- R104: a goal decision at step i. -/
def State.goalChoice (s : State) (i magA : Nat) (u : Pair) : Decided :=
  let orders := s.planFor i u
  if s.spin.limitOf i < magA then ⟨s.spin.excursionChoice i, 7⟩
  else if s.spin.limitOf i * 3 / 4 < magA ∧ orders ≠ [] then ⟨.balance orders, 8⟩
  else ⟨.hold, 9⟩

/-! ## Outcomes (R105, R106) -/

/-- R105, R106: the counters after the outcome. -/
def Spin.countOutcome (p : Spin) : Choice → Spin
  | .advance _ => { p with plans := 0 }
  | .balance _ => { p with plans := p.plans + 1 }
  | .retreat => { p with retreats := p.retreats + 1, plans := 0 }
  | .capHere => p
  | .capRetreats => { p with plans := 0 }
  | .redistribute => { p with attempts := p.attempts + 1 }
  | .hold => p
  | .unbalanced => p

/-- R39: BALANCE turns the window into the pre-fill record. -/
def State.enterBalancing (s : State) (i : Nat) (a k : Pair) (orders : List Order) : State :=
  let s1 := s.setEst { s.est.emptied with preFill := some ⟨i, a, k, Vector.replicate 4 0⟩ }
  (s1.takeOrders orders).enter .balancing .balance

/-- R105, R106, R122: what follows the DECISION report: the CEILING or REDISTRIBUTION report and the
change of state. DEDUCED (log 36): R122's table gives the ramp of an ADVANCE the direction UP, while
R118, whose exceptions do not name ADVANCE, gives DOWN when the current speed is at or above speed(d);
the model follows R118. -/
def State.applyChoice (s : State) (i : Nat) (a k : Pair) (size : Nat) (d : Decided) : State :=
  match d.choice with
  | .advance j => s.startRamping j (s.rampDir j) .advance
  | .balance orders => s.enterBalancing i a k orders
  | .hold => s.setEst s.est.emptied
  | .capHere =>
    let s1 := s.lowerCeiling i .cap
    s1.setEst s1.est.emptied
  | .retreat => s.startRetreating (s.spin.dwellBelow i) .retreat
  | .capRetreats =>
    (s.lowerCeiling (s.spin.dwellBelow i) .retreats).startRetreating (s.spin.dwellBelow i) .cap
  | .redistribute =>
    (giveReport (.redistribution
      ⟨s.spin.attempts, s.spin.par.maxAttempts, i, d.test, size, mag a⟩) s).enterWinddown
      .redistribute
  | .unbalanced => s.enterWinddown .unbalanced

/-- R105: how many orders a plan holds. -/
def Choice.orderCount : Choice → Nat
  | .balance orders => orders.length
  | _ => 0

/-! ## The decision event (R32, R100) -/

/-- A ready window (R30, R31): its average, spread, steadiness and newest revolution. -/
structure ReadyWindow where
  avg : Pair
  spread : Nat
  steady : Bool
  newest : RevNum
  deriving DecidableEq, Repr

/-- R32, step 1: the learning step when the post-fill mark is set, its outcome handled by the table;
with the Learned field of the estimate (R37). -/
def State.learningStep (s : State) (c : Fin 4) (a : Pair) : State × Learned :=
  match s.est.preFill with
  | none => (s, .none)
  | some pre =>
    let o := learn s.spin.par pre a
    ((s.setEst { s.est with preFill := none }).takeLearned c o,
      if o.result = .accepted then .accepted else .rejected)

/-- R36: the predictions at the steps above s, in increasing order. -/
def predictionsOf (size : Nat) : List StepK → List Prediction
  | [] => []
  | q :: rest => ⟨q.step, prediction size q.k⟩ :: predictionsOf size rest

/-- R100: the steps of a decision: s and, below the goal, every step up to d. -/
def decisionSteps (s : Nat) (d : Option Nat) : List Nat :=
  match d with
  | some d => (List.range (d + 1 - s)).map (· + s)
  | none => [s]

/-- R35 to R37, R100 to R107: the decision once the coefficients are in hand. `k` is K(s), `above` the
coefficients of the steps above s, `d` the next dwell step of a climb decision. -/
def State.decideWith (s : State) (i goal : Nat) (d : Option Nat) (w : ReadyWindow)
    (learned : Learned) (k : Pair) (above : List StepK) : State :=
  let u := estimateU k w.avg
  let size := estimateSize u w.steady
  let qs := predictionsOf size above
  let magA := mag w.avg
  let s1 := s.setEst { s.est with
    latest := some ⟨i, w.newest, s.spin.par.windowRevs, w.steady, w.spread, w.avg, k, u, size,
      learned, qs⟩ }
  let dec :=
    match d with
    | some d => s1.climbChoice i d magA size u qs
    | none => s1.goalChoice i magA u
  let s2 := s1.setSpin (s1.spin.countOutcome dec.choice)
  let s3 := giveReport
    (.decision
      { step := i, goal := goal, ceiling := s.spin.ceiling.getD 0, next := d,
        outcome := dec.choice.code, test := dec.test, steady := w.steady, avg := w.avg,
        magA := magA, limit := s.spin.limitOf i, u := u, size := size,
        worst := s.spin.worstMargin qs, attempts := s2.spin.attempts,
        retreats := s2.spin.retreats, plans := s2.spin.plans,
        orders := dec.choice.orderCount }) s2
  s3.applyChoice i w.avg k size dec

/-- R32, R100: the decision event at the current dwell step. -/
def State.decisionEvent (s : State) (w : ReadyWindow) : State :=
  let c := s.weigh.cls.getD 0
  let i := s.spin.dwell.getD 0
  let goal := s.spin.goal.getD 0
  let d := if i < goal then some (s.spin.nextDwell i goal) else none
  match s.learningStep c w.avg with
  | (s1, learned) =>
    match s1.lookups c (decisionSteps i d) with
    | (s2, none) => s2.enterAborting .table
    | (s2, some []) => s2
    | (s2, some (q :: above)) => s2.decideWith i goal d w learned q.k above

/-! ## Measuring records (R29 to R31) -/

/-- R29: whether a measuring record is admitted to the window. -/
def RevRecord.admitted (r : RevRecord) : Bool := !r.irregular && !r.ramping && !r.filling

/-- R30, R31: the window after a vector joined it: a full window is ready, steady or marked unsteady,
or slides. -/
def State.windowStep (s : State) (newest : RevNum) : State :=
  let p := s.spin.par
  let vs := s.est.window.map WindowEntry.orbit
  let a := windowAverage p.windowRevs vs
  let spread := windowSpread a vs
  if s.est.window.length < p.windowRevs then s
  else if spread ≤ p.spreadLimit then s.decisionEvent ⟨a, spread, true, newest⟩
  else if s.est.m < 3 * p.windowRevs then
    s.setEst { s.est with window := s.est.window.drop 1 }
  else s.decisionEvent ⟨a, spread, false, newest⟩

/-- R29: a record taken in MEASURING. -/
def State.measuringRecord (s : State) (r : RevRecord) : State :=
  let s1 := s.setEst { s.est with m := countUp 255 s.est.m }
  if r.admitted then
    (s1.setEst { s1.est with
      window := s1.est.window ++ [⟨r.number, orbitVector r.samples⟩] }).windowStep r.number
  else s1

/-! ## Records in the other states (R119, R121, R124, R125) -/

/-- R119: a record in the band of the ramp's destination. -/
def Spin.inBand (p : Spin) (r : RevRecord) : Bool :=
  r.wellTimed && p.speedOf (p.dest.getD 0) * 49 ≤ r.speed * 50
    && r.speed * 50 ≤ p.speedOf (p.dest.getD 0) * 51

/-- R119, R120: the ramp completion test. -/
def State.completionTest (s : State) (r : RevRecord) : State :=
  if s.spin.inBand r then
    let s1 := s.setSpin { s.spin with rampCount := s.spin.rampCount + 1 }
    if s1.spin.rampCount = 2 then s1.arrive (s.spin.dest.getD 0) else s1
  else s.setSpin { s.spin with rampCount := 0 }

/-- R124: the highest ladder step whose speed is at or below a speed, searched downward from `n`. -/
def Spin.watchStepBelow (p : Spin) (speed : Nat) : Nat → Option Nat
  | 0 => none
  | n + 1 => if p.speedOf n ≤ speed then some n else p.watchStepBelow speed n

/-- R124: the watch step of a record. -/
def Spin.watchStep (p : Spin) (speed : Nat) : Option Nat := p.watchStepBelow speed p.stepCount

/-- R124: whether a record is an excess. -/
def Spin.excess (p : Spin) (r : RevRecord) : Bool :=
  match r.orbit, p.watchStep r.speed with
  | some c, some i => p.limitOf i < mag c
  | _, _ => false

/-- R99: a retreat is counted while retreats remain. -/
def Spin.countRetreat (p : Spin) : Spin :=
  if p.retreats < p.par.maxRetreats then { p with retreats := p.retreats + 1 } else p

/-- R124, R125: a record taken in RAMPING: the watch first when the ramp is UP, then the completion
test. -/
def State.rampingRecord (s : State) (r : RevRecord) : State :=
  let i := s.spin.dest.getD 0
  if s.spin.dir = some .up ∧ s.spin.excess r ∧ 0 < i then
    (s.setSpin s.spin.countRetreat).startRetreating (s.spin.dwellBelow i) .watch
  else s.completionTest r

/-- R125: a record taken in BALANCING. -/
def State.balancingRecord (s : State) (r : RevRecord) : State :=
  let i := s.spin.dwell.getD 0
  if s.spin.excess r then
    if 0 < i ∧ s.spin.retreats < s.spin.par.maxRetreats then
      (s.setSpin s.spin.countRetreat).startRetreating (s.spin.dwellBelow i) .watch
    else
      let s1 := s.stopPlanFills
      (s1.setSpin { s1.spin with settle := 0 }).enter .settling .watch
  else s

/-- R121: a record taken in SETTLING. -/
def State.settlingRecord (s : State) (r : RevRecord) : State :=
  if !r.irregular && !r.filling then
    let s1 := s.setSpin { s.spin with settle := s.spin.settle + 1 }
    if s1.spin.settle = s.spin.par.settleRevs then s1.enter .measuring .settled else s1
  else s

/-- R57: the end of weighing: result and phase stored, the WEIGHED report given, the ramp to step 0
started, in this order. -/
def State.endWeighing (s : State) (e : Weigh × WeighedReport) : State :=
  (giveReport (.weighed e.2) (s.setWeigh e.1)).rampFromWeighing

/-- R51 to R53: a record taken in WEIGHING. A torque sample still to come keeps the sum of the phase in
force at its slot edge, whatever this record makes of the phase (R50). -/
def State.weighingRecord (s : State) (r : RevRecord) : State :=
  let w := s.weigh.takeRecord s.spin.par r
  let s1 := s.setWeigh w
  if w.isComplete then s1.endWeighing (w.complete s.spin.par) else s1

/-- R14: the record is taken by the Weigh Unit, the Spin Controller and the estimator's window, by the
spin state as it stands before the record changes it (R29, R119, R124). -/
def State.takeRecord (s : State) (r : RevRecord) : State :=
  match s.spin.state with
  | .weighing => s.weighingRecord r
  | .ramping => s.rampingRecord r
  | .retreating => s.completionTest r
  | .settling => s.settlingRecord r
  | .measuring => s.measuringRecord r
  | .balancing => s.balancingRecord r
  | .winddown => s
  | .aborting => s
  | .idle => s

/-! ## Trace records (R180, R181) -/

/-- R180: the trace record of a revolution record, with the gap count it is made with. -/
def State.traceRecordOf (s : State) (r : RevRecord) : TraceRecord :=
  { number := r.number, dwell := s.spin.dwell, state := s.spin.state, speed := r.speed,
    orbit := r.orbitAndOffset, peak := r.peak, slots := r.slots, irregular := r.irregular,
    ramping := r.ramping, filling := r.filling, gap := s.trace.gap }

/-- R181: a trace record is entered, or discarded with the gap count increased. -/
def TraceQueue.offer (t : TraceQueue) (r : TraceRecord) : TraceQueue :=
  if t.enable && t.queue.length < traceRoom then
    { t with queue := t.queue ++ [r], gap := 0 }
  else { t with gap := countUp 255 t.gap }

/-- R180: a revolution closed outside IDLE gives a trace record. -/
def State.traceRevolution (s : State) (r : RevRecord) : State :=
  if s.spin.state = .idle then s
  else s.setTrace (s.trace.offer (s.traceRecordOf r))

/-- R14: the hand-off of a record. `old` is the current speed before the close. The order in which the
Chamber Controller takes a lowered speed and the others take the record is free (R150; log 10). DEDUCED (log 38): the
Trace Queue makes its record before either, so the record carries the spin state in which the revolution closed. -/
def State.handOff (s : State) (old : Nat) (r : RevRecord) : State :=
  let s1 := s.traceRevolution r
  if Config.speedTakenFirst s.draw then (s1.speedChanged old).takeRecord r
  else (s1.takeRecord r).speedChanged old

end Sys2Proof.Machine
end

