-- ==== Sys2Proof/Machine/RotationOps.lean ====
section
/-! DEFINITION. The Rotation Timer and the Excursion Sampler (01): pairing, building and closing revolutions, index loss,
standstill, sensor reads, strikes and torque samples. -/

namespace Sys2Proof.Machine

/-! ## What the sampler sees at an edge (R13) -/

/-- The looks of R13 at an edge: the spin state and the chambers as they stand before the edge changes
anything (log 11). -/
structure Look where
  ramping : Bool
  filling : Bool
  deriving DecidableEq, Repr

def State.look (s : State) : Look := ⟨s.spin.state.rampingLook, s.anyFilling⟩

/-! ## Samples (R18, R19) -/

/-- R19: a pair is invalid when either component reads −2048, and valid otherwise. -/
def samplePair (x y : BitVec 12) : Sample :=
  if x = 0x800 ∨ y = 0x800 then .invalid else .valid x.toInt y.toInt

/-! ## The sensor port (R18) -/

/-- R18: the convert-and-read command octet, 81h. -/
def readCommand : Octet := 0x81

/-- R18: the level of SDO in cycles 1 to 8 of a read: the command octet, most significant bit first. -/
def commandLevel (cycle : Nat) : Bool := readCommand.getLsbD (8 - cycle)

/-- R18: SCS is low in a read and high between reads. -/
def State.scs (s : State) : Bool := s.samp.read.isNone

/-- R18: SCK is high between reads; in a read it gives its 32 cycles (none; log 22). -/
def State.sck (s : State) : Option Bool := if s.samp.read.isNone then some true else none

/-- R18: SDO is low between reads and carries the command in cycles 1 to 8 of a read; the rule gives it no level in
cycles 9 to 32 (none; log 22). -/
def State.sdo (s : State) (cycle : Nat) : Option Bool :=
  if s.samp.read.isNone then some false else if cycle ≤ 8 then some (commandLevel cycle) else none

/-- R18: the level the sensor gives SDI in cycles 9 to 20 (x) and 21 to 32 (y), most significant bit first. -/
def sensorLevel (x y : BitVec 12) (cycle : Nat) : Bool :=
  if cycle ≤ 20 then x.getLsbD (20 - cycle) else y.getLsbD (32 - cycle)

/-- The code of the `n` bits taken from SDI at the rising edges from cycle `first` on, each later one less
significant (R18). -/
def shiftIn (line : Nat → Bool) (first : Nat) : Nat → BitVec 12
  | 0 => 0
  | n + 1 => (shiftIn line first n <<< 1) ||| (BitVec.ofBool (line (first + n))).setWidth 12

/-- R18, R19: the pair a read takes from SDI: x in cycles 9 to 20 and y in cycles 21 to 32. -/
def sdiPair (line : Nat → Bool) : Sample := samplePair (shiftIn line 9 12) (shiftIn line 21 12)

/-- The pair that a read still in progress at the close will bring: free (log 8). -/
def openSample (draw k : Nat) : Sample :=
  let c := Config.openSampleCode draw k
  samplePair (c.extractLsb' 12 12) (c.extractLsb' 0 12)

/-- The pairs of a closed revolution, slot numbers counted from `k` (R12; log 8). -/
def settleSamples (draw k : Nat) : List Sample → List Sample
  | [] => []
  | .unread :: rest => openSample draw k :: settleSamples draw (k + 1) rest
  | .invalid :: rest => .invalid :: settleSamples draw (k + 1) rest
  | .valid x y :: rest => .valid x y :: settleSamples draw (k + 1) rest

/-- R12: the peak, the largest mag over the valid pairs, 0 when there is none. -/
def peakOf : List Sample → Nat
  | [] => 0
  | .valid x y :: rest => max (mag ⟨x, y⟩) (peakOf rest)
  | _ :: rest => peakOf rest

def Sample.isInvalid : Sample → Bool
  | .invalid => true
  | .unread => false
  | .valid _ _ => false

/-! ## Speeds (R6, R10) -/

/-- R6: the slot speed of a slot interval, saturating at 4000 rpm; free for an interval of 0
(log 9). -/
def slotSpeedOf (draw us : Nat) : Nat :=
  if us = 0 then min 4000 (Config.openSlotSpeed draw) else min 4000 (roundDivNat 1875000 us)

/-- R10: the speed of a period, saturating at 4000 rpm; free for a period of 0 (log 9). -/
def periodSpeedOf (draw us : Nat) : Nat :=
  if us = 0 then min 4000 (Config.openPeriodSpeed draw) else min 4000 (roundDivNat 60000000 us)

/-! ## Assigning slot edges (R7, R8) -/

/-- R8: the revolution stores the pairs of its first 32 slots. -/
def storedSlots : Nat := 32

/-- R8, R13: a slot edge is assigned to a revolution as its next slot, with its sample and looks. -/
def Revolution.assign (v : Revolution) (sample : Sample) (l : Look) (struck : Bool) : Revolution :=
  { v with
    slots := v.slots + 1
    samples := if v.slots < storedSlots then v.samples ++ [sample] else v.samples
    ramping := v.ramping || l.ramping
    filling := v.filling || l.filling
    struck := v.struck || struck }

/-- R9, R13: the revolution an index edge opens. -/
def Revolution.opened (now : Stamp) (l : Look) : Revolution :=
  { openedAt := now, paired := false, slots := 0, samples := [], ramping := l.ramping,
    filling := l.filling, struck := false }

/-- The read in progress when the pending slot edge is dealt with: it goes to the slot given, or
nowhere. -/
def Sampler.readFromPending (m : Sampler) (dst : ReadDest) : Sampler :=
  { m with read := m.read.map (fun r =>
      match r.dest with
      | .pending => { r with dest := dst }
      | .slot _ => r
      | .nowhere => r) }

/-- The conversion in progress when the pending slot edge is dealt with: it enters the hold sum or
none (R52). -/
def Sampler.convFromPending (m : Sampler) (dst : TorqueDest) : Sampler :=
  { m with conv := m.conv.map (fun c =>
      match c.dest with
      | .pending => { c with dest := dst }
      | .accel => c
      | .hold => c
      | .nowhere => c) }

/-- The read in progress when the open revolution closes or is discarded: its pair is not stored any
more (R25). -/
def Sampler.readLost (m : Sampler) : Sampler :=
  { m with read := m.read.map (fun r =>
      match r.dest with
      | .slot _ => { r with dest := .nowhere }
      | .pending => r
      | .nowhere => r) }

/-- R52: a slot edge is assigned to the open revolution; its torque sample, if it has one already, is
added when that is a hold revolution, and one still to come goes there. -/
def State.torqueAssigned (s : State) (torque : Option Nat) : State :=
  if s.weigh.phase = .holding then
    let s1 := s.setSamp (s.samp.convFromPending .hold)
    match torque with
    | some t => s1.setWeigh (s1.weigh.addHold t)
    | none => s1
  else s.setSamp (s.samp.convFromPending .nowhere)

/-- R7: the pending slot edge's hold ends without an index edge: it joins the open revolution as its
next slot; in WAITING it joins none. -/
def State.joinPending (s : State) : State :=
  match s.rot.pendingSlot with
  | none => s
  | some q =>
    match s.rot.rev with
    | some v =>
      let v1 := v.assign q.sample ⟨q.ramping, q.filling⟩ q.struck
      ((s.setRot { s.rot with rev := some v1, pendingSlot := none }).setSamp
        (s.samp.readFromPending (.slot v.slots))).torqueAssigned q.torque
    | none =>
      (s.setRot { s.rot with pendingSlot := none }).setSamp
        ((s.samp.readFromPending .nowhere).convFromPending .nowhere)

/-- The revolution being built is discarded, with the pending slot edge and the pairing window (R15,
R16, R25). -/
def State.discardRevolution (s : State) : State :=
  (s.setRot { s.rot with rev := none, window := none, pendingSlot := none }).setSamp
    (((s.samp.readFromPending .nowhere).readLost).convFromPending .nowhere)

/-! ## Closing revolutions (R9 to R14) -/

/-- R12, R13: the record of a revolution closed now, its closing index edge paired or not. -/
def State.closeRecord (s : State) (v : Revolution) (closePaired : Bool) (l : Look) : RevRecord :=
  let period := s.time - v.openedAt
  let samples := settleSamples s.draw 0 v.samples
  let wellTimed := v.slots = 32 && v.paired && closePaired
  { number := s.rot.counter, period := period, speed := periodSpeedOf s.draw period.toNat,
    slots := v.slots, samples := samples, peak := peakOf samples, wellTimed := wellTimed,
    irregular := !wellTimed || samples.any Sample.isInvalid,
    ramping := v.ramping || l.ramping, filling := v.filling || l.filling }

/-- R11, R12: the counter goes up, and a well-timed revolution sets the current speed and ends the
fallback. -/
def Rotation.closedBy (t : Rotation) (r : RevRecord) : Rotation :=
  { t with
    counter := t.counter + 1
    speed := if r.wellTimed then r.speed else t.speed
    fallback := if r.wellTimed then false else t.fallback }

/-- R22: the close of a revolution none of whose samples was a strike clears the idle-strike mark. -/
def Sampler.revolutionClosed (m : Sampler) (struck : Bool) : Sampler :=
  { m with idleStrike := m.idleStrike && struck }

/-- R7, R9: the next revolution opens: with the pending slot edge as its slot 0 when there is one, and
otherwise with its pairing window open. -/
def State.openRevolution (s : State) (l : Look) : State :=
  match s.rot.pendingSlot with
  | some q =>
    let v := (Revolution.opened s.time l).assign q.sample ⟨q.ramping, q.filling⟩ q.struck
    (s.setRot { s.rot with
      rev := some { v with paired := true }
      window := none
      pendingSlot := none
      sinceIndex := 1
      indexLost := false }).setSamp (s.samp.readFromPending (.slot 0))
  | none =>
    s.setRot { s.rot with
      rev := some (.opened s.time l)
      window := some ⟨s.time, pairingUs⟩
      sinceIndex := 0
      indexLost := false }

/-- R9: an index edge. The revolution open closes and its record is handed on; the next one opens. The
torque sample of a slot edge that was pending follows the phase as the hand-off leaves it (R52). An index edge
taken while the stopped mark is set opens a revolution too, so the first index edge after the mark clears then
closes that one with a record, where R17 speaks of an edge that closes nothing: R9 is followed (log 34). -/
def State.indexEdge (s : State) (slotFollows : Bool) : State :=
  let l := s.look
  let pend := s.rot.pendingSlot
  let torque := pend.bind PendingSlot.torque
  match s.rot.rev with
  | none => (s.openRevolution l).torqueAssigned torque
  | some v =>
    let r := s.closeRecord v (pend.isSome || slotFollows) l
    let s1 := (s.setRot (s.rot.closedBy r)).setSamp ((s.samp.readLost).revolutionClosed v.struck)
    ((s1.openRevolution l).handOff s.rot.speed r).torqueAssigned torque

/-! ## Index loss (R15) -/

/-- R15: the count of slot edges at which index loss is declared, and its saturation. -/
def indexLossCount : Nat := 48

/-- R15: index loss. -/
def State.indexLoss (s : State) : State :=
  let s1 := s.discardRevolution
  (s1.setRot { s1.rot with indexLost := true, fallback := true }).indexLossEvent

/-- R15: a slot edge counts towards index loss. -/
def State.countSlotEdge (s : State) : State :=
  let n := countUp indexLossCount s.rot.sinceIndex
  let s1 := s.setRot { s.rot with sinceIndex := n }
  if n = indexLossCount ∧ s.rot.indexLost = false then s1.indexLoss else s1

/-! ## Sensor reads and strikes (R18 to R21) -/

/-- R20: an invalid pair is counted, and the eighth in a row raises the sensor-fault event. -/
def State.countInvalid (s : State) : State :=
  let s1 := s.setSamp { s.samp with invalidRun := countUp 255 s.samp.invalidRun }
  if s.samp.invalidRun = 7 then s1.sensorEvent else s1

/-- R20: a valid pair sets the run count to 0. -/
def State.countValid (s : State) : State := s.setSamp { s.samp with invalidRun := 0 }

/-- R21: whether a valid pair is a strike, once spin parameters have been loaded. -/
def State.isStrike (s : State) (x y : Int) : Bool :=
  match s.spin.params with
  | some p => p.strikeLimit < mag ⟨x, y⟩
  | none => false

/-- R18, R22: the pair of a completed read is stored where its slot edge was assigned, with the mark
that it was a strike. -/
def Rotation.storePair (t : Rotation) (dest : ReadDest) (sample : Sample) (struck : Bool) :
    Rotation :=
  match dest with
  | .pending =>
    { t with pendingSlot :=
        t.pendingSlot.map (fun q => { q with sample := sample, struck := q.struck || struck }) }
  | .slot k =>
    { t with rev := t.rev.map (fun v =>
        { v with samples := v.samples.set k sample, struck := v.struck || struck }) }
  | .nowhere => t

/-- R18: a read completes: the pair is counted (R20), checked for a strike (R21) and stored. -/
def State.readDone (s : State) (dest : ReadDest) (sample : Sample) : State :=
  let s0 := s.setSamp { s.samp with read := none }
  match sample with
  | .valid x y =>
    let struck := s.isStrike x y
    let s1 := (s0.countValid).setRot (s0.rot.storePair dest sample struck)
    if struck then s1.strikeEvent x y (mag ⟨x, y⟩) else s1
  | .invalid => (s0.setRot (s0.rot.storePair dest .invalid false)).countInvalid
  | .unread => s0

/-! ## Torque samples (R23, R50, R52) -/

/-- R23: the torque sample of a code, round(code × 20,000 / 1023). -/
def torqueOf (code : BitVec 10) : Nat := roundDivNat (code.toNat * 20000) 1023

/-- R23, R50, R52: a conversion completes and its sample goes where its slot edge leads it. -/
def State.conversionDone (s : State) (dest : TorqueDest) (t : Nat) : State :=
  let s0 := s.setSamp { s.samp with conv := none }
  match dest with
  | .accel => s0.setWeigh (s0.weigh.addAccel t)
  | .hold => s0.setWeigh (s0.weigh.addHold t)
  | .pending =>
    s0.setRot { s0.rot with
      pendingSlot := s0.rot.pendingSlot.map (fun q => { q with torque := some t }) }
  | .nowhere => s0

/-! ## Slot edges (R6, R7, R16 to R19, R23) -/

/-- R6, R17: the slot speed of a slot edge now; 0 when there is no previous slot edge. -/
def State.newSlotSpeed (s : State) : Nat :=
  if s.rot.stopped then 0
  else
    match s.rot.lastEdge with
    | some t => slotSpeedOf s.draw (interval s.time t)
    | none => 0

/-- R6, R11, R16, R17: stamp, slot speed, current speed under the fallback, standstill timer, stopped
mark; the chambers see the changed speed (R141, R150). -/
def State.timeSlotEdge (s : State) : State :=
  let v := s.newSlotSpeed
  (s.setRot { s.rot with
    lastEdge := some s.time
    slotSpeed := v
    speed := if s.rot.fallback then v else s.rot.speed
    stopped := false
    standstill := some (msTimer s.time standstillMs) }).speedChanged s.rot.speed

/-- R18, R23: a sensor read and a torque conversion start, unless one is still in progress. -/
def State.startSampling (s : State) (dest : ReadDest) (torque : TorqueDest) : State :=
  s.setSamp { s.samp with
    read := if s.samp.read.isSome then s.samp.read else some ⟨⟨s.time, readUs⟩, dest⟩
    conv := if s.samp.conv.isSome then s.samp.conv else some ⟨⟨s.time, conversionUs⟩, torque⟩ }

/-- R19: the sample a slot edge starts with: unread, or invalid when the previous read is still in
progress. -/
def State.firstSample (s : State) : Sample := if s.samp.read.isSome then .invalid else .unread

/-- R7: the slot edge pairs with the index edge whose window is open: it is slot 0 of the revolution
that edge opened, and the window closes. -/
def State.pairWithWindow (s : State) (v : Revolution) (l : Look) (climb : Bool) : State :=
  let v1 := { v.assign s.firstSample l false with paired := true }
  let torque : TorqueDest :=
    if climb then .accel else if s.weigh.phase = .holding then .hold else .nowhere
  (s.setRot { s.rot with rev := some v1, window := none }).startSampling (.slot v.slots) torque

/-- R7: the slot edge is held pending pairing; an earlier pending one is dealt with at once. -/
def State.holdPending (s : State) (l : Look) (climb : Bool) : State :=
  let q : PendingSlot :=
    { timer := ⟨s.time, pairingUs⟩, sample := s.firstSample, torque := none,
      ramping := l.ramping, filling := l.filling, struck := false }
  let s1 := s.joinPending
  (s1.setRot { s1.rot with pendingSlot := some q }).startSampling .pending
    (if climb then .accel else .pending)

/-- R7: a slot edge is paired or held. -/
def State.placeSlotEdge (s : State) (l : Look) (climb : Bool) : State :=
  match s.rot.window, s.rot.rev with
  | some _, some v => s.pairWithWindow v l climb
  | _, _ => s.holdPending l climb

/-- R48, R49: the slot edge reaches the Weigh Unit with its time and slot speed. -/
def State.weighSlotEdge (s : State) : State :=
  s.setWeigh (s.weigh.slotEdge s.spin.par s.time s.rot.slotSpeed)

/-- R6: a slot edge, in the order of the table's row: timed, sampled, placed, counted for index loss
(log 13). An edge that starts no read is an invalid pair and counts as one at once (R19, R20;
log 14). -/
def State.slotEdge (s : State) : State :=
  let l := s.look
  let s1 := s.timeSlotEdge
  let noRead := s1.samp.read.isSome
  let climb := s1.weigh.climbSample s1.spin.par s1.rot.slotSpeed
  let s2 := (s1.placeSlotEdge l climb).weighSlotEdge
  let s3 := if noRead then s2.countInvalid else s2
  s3.countSlotEdge

/-! ## Standstill (R16) -/

/-- R16, R22: the marks and counts of a standstill; the current speed and the slot speed become 0. -/
def State.stopBasket (s : State) : State :=
  let s1 := s.discardRevolution
  (s1.setRot { s1.rot with
    stopped := true, speed := 0, slotSpeed := 0, fallback := true, standstill := none,
    lastEdge := none }).setSamp { s1.samp with invalidRun := 0, idleStrike := false }

/-- R16: standstill. The order in which the lowered speed and the stopped event are taken is free
(log 10). -/
def State.standstill (s : State) : State :=
  let s1 := s.stopBasket
  if Config.speedTakenFirst s.draw then (s1.speedChanged s.rot.speed).stoppedEvent
  else (s1.stoppedEvent).speedChanged s.rot.speed

end Sys2Proof.Machine
end

