-- ==== Sys2Proof/Machine/Messages.lean ====
section
/-! DEFINITION. The octet layouts of frames, event reports and trace records (11.1, 11.6, 11.7; R163, R173, R197). -/

namespace Sys2Proof.Machine

/-! ## Frames (8.2, 11.1) -/

/-- The start octet of every frame, C5h. -/
def startOctet : Octet := 0xC5

/-- The length octet N: it counts kind, tag and body. -/
def Frame.lengthOctet (f : Frame) : Octet := u8 (f.body.length + 2)

/-- The octets the CRC is formed over: length, kind, tag and body (R163). -/
def Frame.checked (f : Frame) : List Octet := f.lengthOctet :: f.kind :: f.tag :: f.body

/-- The frame on the line: start octet, checked octets, CRC (11.1). -/
def Frame.wire (f : Frame) : List Octet := startOctet :: f.checked ++ crcOctets f.checked

/-- A reply as a frame: its body begins with the result code (R171). -/
def Reply.frame (r : Reply) : Frame := ⟨r.kind, r.tag, r.result.code :: r.fields⟩

/-! ## Fault records -/

/-- The pending supply fault record of the SUPPLY_FAULT reply (11.5): kind, chamber, ordered,
delivered, leak count. -/
def SupplyFault.octets : SupplyFault → List Octet
  | .supply c ordered delivered => [3, u8 c.val] ++ u16 ordered ++ u16 delivered ++ [0]
  | .leak n => [4, 0xFF] ++ u16 0 ++ u16 0 ++ [u8 n]

/-! ## Event report bodies (11.6) -/

def StateReport.body (r : StateReport) : List Octet :=
  [u8 r.new.code, u8 r.prev.code, r.reason.code, stepOctet r.dwell, stepOctet r.dest,
   dirOctet r.dir, stepOctet r.target, stepOctet r.ceiling] ++ u16 r.demand

/-- A mean and its count, sent as 0 when absent (R196). -/
def meanOctets : Option MeanCount → List Octet
  | some v => u16 v.mean ++ u16 v.count
  | none => u16 0 ++ u16 0

def WeighedReport.body (r : WeighedReport) : List Octet :=
  [u8 r.cls.val, weighFailOctet r.fail,
   flagOctet [r.inertiaJ.isSome, r.acc.isSome, r.hold.isSome, r.dt.isSome, r.w1.isSome,
     r.w2.isSome]]
  ++ u32 ((r.inertiaJ.map Prod.fst).getD 0) ++ u32 ((r.inertiaJ.map Prod.snd).getD 0)
  ++ meanOctets r.acc ++ meanOctets r.hold ++ u16 (r.dt.getD 0) ++ u16 (r.w1.getD 0)
  ++ u16 (r.w2.getD 0)

def DecisionReport.body (r : DecisionReport) : List Octet :=
  [u8 r.step, u8 r.goal, u8 r.ceiling, boolOctet r.next.isNone, stepOctet r.next,
   r.outcome.code, u8 r.test, boolOctet (!r.steady)]
  ++ pair16 r.avg ++ u16 r.magA ++ u16 r.limit ++ pair16 r.u ++ u16 r.size
  ++ i16 (saturate (-32768) 32767 ((r.worst.map Prod.snd).getD 0))
  ++ [stepOctet (r.worst.map Prod.fst), u8 r.attempts, u8 r.retreats, u8 r.plans, u8 r.orders]

def CeilingReport.body (r : CeilingReport) : List Octet :=
  [u8 r.new, stepOctet r.prev, r.cause.code, stepOctet r.dwell, stepOctet r.target]

def RedistributionReport.body (r : RedistributionReport) : List Octet :=
  [u8 r.attempts, u8 r.maxAttempts, u8 r.step, u8 r.test] ++ u16 r.size ++ u16 r.magA

/-- The dropped orders of a FILL_END report, each with its chamber and amount. -/
def droppedOctets : List Order → List Octet
  | [] => []
  | o :: rest => u8 o.chamber.val :: u16 o.amount ++ droppedOctets rest

def FillEndReport.body (r : FillEndReport) : List Octet :=
  [u8 r.order.chamber.val, r.order.origin.code] ++ u16 r.order.amount ++ u16 r.pulses
  ++ u16 r.delivered ++ [r.reason.code] ++ u16 r.content ++ [u8 r.dropped.length]
  ++ droppedOctets r.dropped

/-- A coefficient that may be absent, sent as 0 when it is (R196). -/
def pairOctets (p : Option Pair) : List Octet := pair16 (p.getD ⟨0, 0⟩)

def LearnedReport.body (r : LearnedReport) : List Octet :=
  [u8 r.outcome.step, u8 r.cls.val, r.outcome.result.code,
   flagOctet [r.outcome.kMeas.isSome, r.outcome.kNew.isSome]]
  ++ pair16 r.outcome.kOld ++ pairOctets r.outcome.kMeas ++ pairOctets r.outcome.kNew
  ++ pair16 r.outcome.du ++ pair16 r.outcome.d

def TableErrorReport.body (r : TableErrorReport) : List Octet :=
  [u8 r.step, u8 r.cls.val, u8 r.response, boolOctet r.baselineK.isNone] ++ pair16 r.slotK
  ++ pairOctets r.baselineK

def FaultReport.body : FaultReport → List Octet
  | .strike n x y m => 0 :: u32 n.toNat ++ i16 x ++ i16 y ++ u16 m
  | .sensor n run => 1 :: u32 n.toNat ++ [u8 run]
  | .index n => 2 :: u32 n.toNat
  | .supply c ordered delivered => [3, u8 c.val] ++ u16 ordered ++ u16 delivered
  | .leak n => [4, u8 n]

def SessionEndReport.body (r : SessionEndReport) : List Octet :=
  [causeOctet r.cause, stepOctet r.dwell, stepOctet r.ceiling, u8 r.attempts, u8 r.retreats]

/-- R173: each report is a frame with tag 0 and the kind of its table. -/
def Report.frame : Report → Frame
  | .state r => ⟨0x80, 0, r.body⟩
  | .weighed r => ⟨0x81, 0, r.body⟩
  | .decision r => ⟨0x82, 0, r.body⟩
  | .ceiling r => ⟨0x83, 0, r.body⟩
  | .redistribution r => ⟨0x84, 0, r.body⟩
  | .fillEnd r => ⟨0x85, 0, r.body⟩
  | .learned r => ⟨0x86, 0, r.body⟩
  | .tableError r => ⟨0x87, 0, r.body⟩
  | .fault r => ⟨0x88, 0, r.body⟩
  | .sessionEnd r => ⟨0x89, 0, r.body⟩

/-! ## Trace records (11.7, R197) -/

/-- A two's complement field of the given width, as a number. -/
def twosField (w : Nat) (v : Int) : Nat := (BitVec.ofInt w v).toNat

/-- Octets 0 to 8 of both forms. -/
def TraceRecord.head (r : TraceRecord) : List Octet :=
  u32 r.number.toNat
  ++ u16 ((r.dwell.getD 15) * 4096 + r.speed)
  ++ u16 (r.state.code * 8192 + (if r.irregular then 4096 else 0) + r.peak)
  ++ [u8 r.gap]

/-- The 48-bit field of the regular form: ramping, fill in flight, Cr and Ci in 13 bits, Mx and My in
10 bits, each saturating at −511 and +511. -/
def TraceRecord.regularField (r : TraceRecord) (c m : Pair) : Nat :=
  (if r.ramping then 2 ^ 47 else 0) + (if r.filling then 2 ^ 46 else 0)
  + twosField 13 c.re * 2 ^ 33 + twosField 13 c.im * 2 ^ 20
  + twosField 10 (saturate (-511) 511 m.re) * 2 ^ 10 + twosField 10 (saturate (-511) 511 m.im)

/-- R197: the irregular form of 10 octets when the irregular flag is set, and otherwise the regular
form of 15. -/
def TraceRecord.octets (r : TraceRecord) : List Octet :=
  if r.irregular then
    r.head ++ [u8 ((if r.ramping then 128 else 0) + (if r.filling then 64 else 0) + r.slots)]
  else
    let cm := r.orbit.getD (⟨0, 0⟩, ⟨0, 0⟩)
    let v := r.regularField cm.1 cm.2
    r.head ++ [u8 (v / 2 ^ 40), u8 (v / 2 ^ 32)] ++ u32 v

/-- R183: a pushed record is a frame of kind 90h with tag 0. -/
def TraceRecord.frame (r : TraceRecord) : Frame := ⟨0x90, 0, r.octets⟩

/-- The records of a Read Trace reply, back to back, oldest first (R197). -/
def traceOctets : List TraceRecord → List Octet
  | [] => []
  | r :: rest => r.octets ++ traceOctets rest

end Sys2Proof.Machine
end

