-- ==== Sys2Proof/Machine/Operands.lean ====
section
/-! DEFINITION. Request bodies (11.4): which kinds are requests, which body length each takes, the fields read from a body,
their ranges and combinations (R91, R93, R94), and the bodies a main controller sends. -/

namespace Sys2Proof.Machine

/-! ## Kinds and mode classes (08, Request catalogue) -/

/-- The requests of the catalogue; a Deposit is one request with two targets. -/
inductive RequestKind where
  | identify | status | restart | loadLadder | loadParameters | loadBaseline | flushTable
  | startSpin | setTarget | stop | queryEstimate | setTrace | readTrace | serviceEnter
  | serviceLeave | examine | deposit | manualFill | stopFill | forceBaseline
  deriving DecidableEq, Repr

/-- The kind octet of a request. -/
def RequestKind.octet : RequestKind → Octet
  | .identify => 0x01 | .status => 0x02 | .restart => 0x03 | .loadLadder => 0x10
  | .loadParameters => 0x11 | .loadBaseline => 0x12 | .flushTable => 0x13 | .startSpin => 0x18
  | .setTarget => 0x19 | .stop => 0x1A | .queryEstimate => 0x20 | .setTrace => 0x24
  | .readTrace => 0x25 | .serviceEnter => 0x30 | .serviceLeave => 0x31 | .examine => 0x32
  | .deposit => 0x33 | .manualFill => 0x34 | .stopFill => 0x35 | .forceBaseline => 0x36

/-- The request a kind octet names; none for a kind that names no request (R170). -/
def requestOf (kind : Octet) : Option RequestKind :=
  match kind.toNat with
  | 0x01 => some .identify
  | 0x02 => some .status
  | 0x03 => some .restart
  | 0x10 => some .loadLadder
  | 0x11 => some .loadParameters
  | 0x12 => some .loadBaseline
  | 0x13 => some .flushTable
  | 0x18 => some .startSpin
  | 0x19 => some .setTarget
  | 0x1A => some .stop
  | 0x20 => some .queryEstimate
  | 0x24 => some .setTrace
  | 0x25 => some .readTrace
  | 0x30 => some .serviceEnter
  | 0x31 => some .serviceLeave
  | 0x32 => some .examine
  | 0x33 => some .deposit
  | 0x34 => some .manualFill
  | 0x35 => some .stopFill
  | 0x36 => some .forceBaseline
  | _ => none

/-- Mode classes (R169). -/
inductive ModeClass where
  | normal | service | any
  deriving DecidableEq, Repr

def RequestKind.modeClass : RequestKind → ModeClass
  | .loadLadder | .loadParameters | .startSpin | .setTarget | .stop | .serviceEnter => .normal
  | .serviceLeave | .examine | .deposit | .manualFill | .stopFill | .forceBaseline => .service
  | .identify | .status | .restart | .loadBaseline | .flushTable | .queryEstimate | .setTrace
  | .readTrace => .any

/-! ## Reading fields by offset -/

def b8 (b : List Octet) (i : Nat) : Nat := (b.getD i 0).toNat
def b16 (b : List Octet) (i : Nat) : Nat := val16 (b.getD i 0) (b.getD (i + 1) 0)
def s16 (b : List Octet) (i : Nat) : Int := sval16 (b.getD i 0) (b.getD (i + 1) 0)

/-- A complex pair at an offset, real part first. -/
def bPair (b : List Octet) (i : Nat) : Pair := ⟨s16 b i, s16 b (i + 2)⟩

/-- Bit i of a flag octet. -/
def flagBit (b : List Octet) (at' i : Nat) : Bool := b8 b at' / 2 ^ i % 2 = 1

/-- R169, check 1: the body length a kind requires (11.4); Load Ladder's follows its step count. -/
def RequestKind.lengthOk (k : RequestKind) (b : List Octet) : Bool :=
  match k with
  | .identify | .restart | .flushTable | .stop | .queryEstimate | .serviceEnter | .serviceLeave =>
    b.length = 0
  | .status | .setTarget | .readTrace | .stopFill | .forceBaseline => b.length = 1
  | .loadLadder => !b.isEmpty && b.length = 1 + 5 * b8 b 0
  | .loadParameters => b.length = 35
  | .loadBaseline => b.length = 17
  | .startSpin => b.length = 4
  | .setTrace | .examine | .manualFill => b.length = 3
  | .deposit => b.length = 11

/-! ## Load Ladder (R91) -/

/-- A step as it stands in a Load Ladder body. -/
structure RawStep where
  speed : Nat
  kind : Nat
  limit : Nat
  deriving DecidableEq, Repr

/-- The steps of a Load Ladder body after its count octet. -/
def readSteps : List Octet → List RawStep
  | s1 :: s0 :: k :: l1 :: l0 :: rest => ⟨val16 s1 s0, k.toNat, val16 l1 l0⟩ :: readSteps rest
  | _ => []

/-- R91: speed 50 to 1200, kind DWELL or CROSSING, limit 20 to 1000. -/
def RawStep.inRange (r : RawStep) : Bool :=
  50 ≤ r.speed && r.speed ≤ 1200 && r.kind ≤ 1 && 20 ≤ r.limit && r.limit ≤ 1000

def RawStep.step (r : RawStep) : LadderStep :=
  ⟨r.speed, if r.kind = 0 then .dwell else .crossing, r.limit⟩

/-- R90: speeds strictly increase. -/
def speedsRise : List LadderStep → Bool
  | a :: b :: rest => a.speed < b.speed && speedsRise (b :: rest)
  | _ => true

/-- R90: no run of consecutive CROSSING steps is longer than 3; `run` counts those just passed. -/
def crossingRunsOk (run : Nat) : List LadderStep → Bool
  | [] => true
  | st :: rest =>
    match st.kind with
    | .dwell => crossingRunsOk 0 rest
    | .crossing => run + 1 ≤ 3 && crossingRunsOk (run + 1) rest

/-- R90: step 0 and the top step are DWELL. -/
def endsDwell (l : List LadderStep) : Bool :=
  l.head?.any (fun st => st.kind = .dwell) && l.getLast?.any (fun st => st.kind = .dwell)

/-- R90: the three rules every loaded ladder meets. -/
def ladderConsistent (l : List LadderStep) : Bool :=
  speedsRise l && endsDwell l && crossingRunsOk 0 l

/-- The ladder a Load Ladder body carries. -/
def bodyLadder (b : List Octet) : List LadderStep := (readSteps (b.drop 1)).map RawStep.step

/-- R91: step count 2 to 12 and every step in range. -/
def ladderInRange (b : List Octet) : Bool :=
  2 ≤ b8 b 0 && b8 b 0 ≤ 12 && (readSteps (b.drop 1)).all RawStep.inRange

/-- The body of a Load Ladder request for a ladder (11.4). -/
def ladderBody (l : List LadderStep) : List Octet :=
  u8 l.length :: l.flatMap (fun st =>
    u16 st.speed ++ [if st.kind = .dwell then 0 else 1] ++ u16 st.limit)

/-! ## Load Parameters (R93, R94) -/

/-- The parameters a Load Parameters body carries, in the order of R93's table. -/
def bodyParams (b : List Octet) : Params :=
  { settleRevs := b8 b 0, windowRevs := b8 b 1, spreadLimit := b16 b 2, strikeLimit := b16 b 4,
    redistThreshold := b16 b 6, maxAttempts := b8 b 8, maxPlans := b8 b 9, maxRetreats := b8 b 10,
    holdSpeed := b16 b 11, bleed := b8 b 13, flowCal := b8 b 14, planLimit := b16 b 15,
    minFill := b8 b 17, ringOffset := b8 b 18, errorResponse := b8 b 19, noiseFloor := b8 b 20,
    weighLow := b8 b 21, weighHigh := b8 b 22, basketInertia := b16 b 23, threshold1 := b16 b 25,
    threshold2 := b16 b 27, threshold3 := b16 b 29, rampAllowance := b16 b 31,
    supplyTimeout := b16 b 33 }

def within (lo hi v : Nat) : Bool := lo ≤ v && v ≤ hi

/-- R93: the ranges. -/
def Params.inRange (p : Params) : Bool :=
  within 2 16 p.settleRevs && within 1 8 p.windowRevs && within 4 400 p.spreadLimit
  && within 100 1600 p.strikeLimit && within 50 4000 p.redistThreshold
  && within 1 5 p.maxAttempts && within 1 4 p.maxPlans && within 0 3 p.maxRetreats
  && within 150 600 p.holdSpeed && within 1 10 p.bleed && within 5 50 p.flowCal
  && within 20 400 p.planLimit && within 5 50 p.minFill && within 0 31 p.ringOffset
  && within 0 2 p.errorResponse && within 1 50 p.noiseFloor && within 20 60 p.weighLow
  && within 40 120 p.weighHigh && within 100 2000 p.basketInertia
  && within 0 4000 p.threshold1 && within 0 4000 p.threshold2 && within 0 4000 p.threshold3
  && within 500 10000 p.rampAllowance && within 500 5000 p.supplyTimeout

/-- R94: weigh_high at least weigh_low + 20, thresholds strictly increasing. -/
def Params.consistent (p : Params) : Bool :=
  p.weighLow + 20 ≤ p.weighHigh && p.threshold1 < p.threshold2 && p.threshold2 < p.threshold3

/-- The 24 values in the order of R93's table (R189). -/
def Params.values (p : Params) : List Nat :=
  [p.settleRevs, p.windowRevs, p.spreadLimit, p.strikeLimit, p.redistThreshold, p.maxAttempts,
   p.maxPlans, p.maxRetreats, p.holdSpeed, p.bleed, p.flowCal, p.planLimit, p.minFill,
   p.ringOffset, p.errorResponse, p.noiseFloor, p.weighLow, p.weighHigh, p.basketInertia,
   p.threshold1, p.threshold2, p.threshold3, p.rampAllowance, p.supplyTimeout]

/-- The body of a Load Parameters request (11.4). -/
def Params.body (p : Params) : List Octet :=
  [u8 p.settleRevs, u8 p.windowRevs] ++ u16 p.spreadLimit ++ u16 p.strikeLimit
  ++ u16 p.redistThreshold ++ [u8 p.maxAttempts, u8 p.maxPlans, u8 p.maxRetreats]
  ++ u16 p.holdSpeed ++ [u8 p.bleed, u8 p.flowCal] ++ u16 p.planLimit
  ++ [u8 p.minFill, u8 p.ringOffset, u8 p.errorResponse, u8 p.noiseFloor, u8 p.weighLow,
      u8 p.weighHigh]
  ++ u16 p.basketInertia ++ u16 p.threshold1 ++ u16 p.threshold2 ++ u16 p.threshold3
  ++ u16 p.rampAllowance ++ u16 p.supplyTimeout

/-! ## Load Baseline (R65) -/

/-- The four coefficients of a Load Baseline body, in class order. -/
def bodyCoefficients (b : List Octet) : Vector Pair 4 :=
  #v[bPair b 1, bPair b 5, bPair b 9, bPair b 13]

/-- R65: a step above 11, or a coefficient of magnitude below 16, is out of range. -/
def baselineInRange (b : List Octet) : Bool :=
  b8 b 0 ≤ 11 && 16 ≤ mag (bPair b 1) && 16 ≤ mag (bPair b 5) && 16 ≤ mag (bPair b 9)
    && 16 ≤ mag (bPair b 13)

/-- The body of a Load Baseline request (11.4). -/
def baselineBody (step : Nat) (ks : Vector Pair 4) : List Octet :=
  u8 step :: pair16 ks[0] ++ pair16 ks[1] ++ pair16 ks[2] ++ pair16 ks[3]

/-! ## Start Spin (R115) -/

/-- R115: target at most 11, duration 30 to 1800 s, no flag but continuation. -/
def startInRange (b : List Octet) : Bool :=
  b8 b 0 ≤ 11 && within 30 1800 (b16 b 1) && b8 b 3 ≤ 1

/-- The body of a Start Spin request (11.4). -/
def startBody (target duration : Nat) (continuation : Bool) : List Octet :=
  u8 target :: u16 duration ++ [boolOctet continuation]

/-! ## Deposit (R191, R192) -/

/-- The code of a SLOT target (11.3; log 6). -/
def targetSlot : Nat := 2

/-- The code of a CHAMBER target (11.3; log 6). -/
def targetChamber : Nat := 3

/-- R191: a Deposit naming a slot is in range; its content field is unused and must be 0. -/
def depositSlotInRange (b : List Octet) : Bool :=
  b8 b 1 ≤ 11 && b8 b 2 ≤ 3 && b8 b 7 ≤ 2 && b8 b 8 ≤ 1 && b16 b 9 = 0
    && (b8 b 7 = 0 || 16 ≤ mag (bPair b 3))

/-- R191, R192: a Deposit naming a chamber is in range; tag, coefficient, valid choice and flags are
unused and must be 0. -/
def depositChamberInRange (b : List Octet) : Bool :=
  b8 b 1 ≤ 3 && b8 b 2 = 0 && b16 b 3 = 0 && b16 b 5 = 0 && b8 b 7 = 0 && b8 b 8 = 0

/-- The fields of a slot Deposit after the target octet (11.4). -/
def depositSlotFields (i tag : Nat) (k : Pair) (choice : Nat) (wrong : Bool) : List Octet :=
  [u8 i, u8 tag] ++ pair16 k ++ [u8 choice, boolOctet wrong] ++ u16 0

/-- The fields of a chamber Deposit after the target octet (11.4). -/
def depositChamberFields (c : Fin 4) (content : Nat) : List Octet :=
  [u8 c.val, 0] ++ pair16 ⟨0, 0⟩ ++ [0, 0] ++ u16 content

/-- A chamber number or a class as an index. -/
def fin4 (n : Nat) : Fin 4 := Fin.ofNat 4 n

end Sys2Proof.Machine
end

