-- ==== Sys2Proof/Machine/StatusPages.lean ====
section
/-! DEFINITION. The replies that read state out: Identify, the Status pages and the items of Examine and Deposit (11.5). -/

namespace Sys2Proof.Machine

/-! ## Identify (R175) -/

def State.identifyFields (s : State) : List Octet :=
  [0x2A] ++ u16 410 ++ [1, boolOctet s.link.fast, boolOctet s.pins.svc, 12, 8, 8, 32, 64]

/-! ## Status (R176, 11.5) -/

/-- The session timer's remaining time in whole seconds, truncated; absent when stopped (R139). -/
def State.sessionSeconds (s : State) : Option Nat :=
  s.spin.sessionTimer.map (fun t => (t.us - interval s.time t.start) / 1000000)

def WeighResult.inertia : WeighResult → Option Nat
  | .weighed _ load => some load
  | .unweighed => none
  | .failed _ => none

def WeighResult.fail : WeighResult → Option WeighFail
  | .failed why => some why
  | .unweighed => none
  | .weighed _ _ => none

/-- The class octet, FFh when unweighed (Status page 0). -/
def Weigh.clsOctet (w : Weigh) : Octet :=
  match w.cls with
  | some c => u8 c.val
  | none => 0xFF

/-- The common part of every page and the page number (R176). -/
def State.statusHead (s : State) (page : Nat) : List Octet :=
  [u8 s.spin.state.code, flagOctet [s.serv.mode, s.link.eventsDropped], u8 s.link.dropped,
   u8 s.link.reports.length, u8 page]

/-- Page 0: session (R26, R60, R110, R139, R195). -/
def State.statusPage0 (s : State) : List Octet :=
  u16 s.rot.speed
  ++ [flagOctet [s.rot.stopped, s.rot.indexLost, !s.spin.ladder.isEmpty, s.spin.paramsLoaded,
        s.profileComplete, s.spin.den, s.spin.brk, s.pins.dflt],
      flagOctet [s.serv.forceLow, s.serv.forceHigh, s.pins.svc],
      flagOctet [s.weigh.result.inertia.isSome, s.sessionSeconds.isSome]]
  ++ u32 s.rot.counter.toNat
  ++ [u8 s.samp.invalidRun, s.weigh.phase.code, s.weigh.clsOctet,
      weighFailOctet s.weigh.result.fail]
  ++ u32 (s.weigh.result.inertia.getD 0)
  ++ [u8 s.spin.stepCount, stepOctet s.spin.target, stepOctet s.spin.ceiling,
      stepOctet s.spin.goal, stepOctet s.spin.dwell, stepOctet s.spin.dest, dirOctet s.spin.dir,
      u8 s.spin.rampCount, u8 s.spin.settle]
  ++ u16 (s.sessionSeconds.getD 0)
  ++ [causeOctet s.spin.closing, causeOctet s.spin.lastEnd]
  ++ u16 s.spin.demand
  ++ [u8 s.spin.attempts, u8 s.spin.retreats, u8 s.spin.plans]

/-- Page 1: Influence Table (R89). -/
def State.statusPage1 (s : State) : List Octet :=
  [s.table.active.code, s.table.flush.code, s.table.flush.posOctet] ++ marks16 s.table.loaded
  ++ [u8 s.table.history.length] ++ s.table.history.map HistoryEntry.octet

/-- A chamber of page 2: content, state, last end. -/
def State.chamberOctets (s : State) (c : Fin 4) : List Octet :=
  u16 (s.cham.content c) ++ [(s.chamberState c).code, endOctet s.cham.chambers[c].lastEnd]

/-- The order in flight of page 2; absent, its chamber is FFh and the rest 0 (R196; log 15). -/
def flightOctets : Option Flight → List Octet
  | some f =>
    [u8 f.order.chamber.val, f.order.origin.code] ++ u16 f.order.amount ++ u16 f.pulses
    ++ u16 f.delivered
  | none => [0xFF, 0] ++ u16 0 ++ u16 0 ++ u16 0

/-- The queued orders of page 2, oldest first. -/
def queueOctets : List Order → List Octet
  | [] => []
  | o :: rest => [u8 o.chamber.val, o.origin.code] ++ u16 o.amount ++ queueOctets rest

/-- The pending supply fault of page 2; absent, its chamber is FFh and the rest 0 (R196; log 15). -/
def pendingFaultOctets : Option SupplyFault → List Octet
  | some f => f.octets
  | none => [0, 0xFF] ++ u16 0 ++ u16 0 ++ [0]

/-- Page 2: chambers (R161). -/
def State.statusPage2 (s : State) : List Octet :=
  s.chamberOctets 0 ++ s.chamberOctets 1 ++ s.chamberOctets 2 ++ s.chamberOctets 3
  ++ [flagOctet [s.cham.flight.isSome, s.cham.pendingFault.isSome], boolOctet s.cham.balancer,
      u8 s.cham.leak]
  ++ flightOctets s.cham.flight ++ [u8 s.cham.queue.length] ++ queueOctets s.cham.queue
  ++ pendingFaultOctets s.cham.pendingFault

/-- Page 3: link and trace (R166, R186). -/
def State.statusPage3 (s : State) : List Octet :=
  [u8 s.trace.queue.length, s.trace.flagsOctet, u8 s.trace.n, u8 s.trace.m, s.trace.marksOctet,
   u8 s.trace.gap, boolOctet s.link.fast, u8 s.link.discards.length, u8 s.link.discards.line,
   u8 s.link.discards.gap, u8 s.link.discards.crc, u8 s.link.discards.full,
   boolOctet s.link.waiting.isSome]

/-- R176: the fields of a Status reply. -/
def State.statusFields (s : State) (page : Nat) : List Octet :=
  s.statusHead page ++
    (if page = 0 then s.statusPage0 else if page = 1 then s.statusPage1
     else if page = 2 then s.statusPage2 else s.statusPage3)

/-! ## Items of Examine and Deposit (R190) -/

/-- LADDER: speed, kind, limit. -/
def ladderItem (st : LadderStep) : List Octet := u16 st.speed ++ [st.kind.code] ++ u16 st.limit

/-- BASELINE: index = step × 4 + class. -/
def State.baselineItem (s : State) (i : Nat) : List Octet :=
  [u8 (i / 4), u8 (i % 4)] ++ pair16 (s.table.entry (i / 4) (fin4 (i % 4)))
  ++ [boolOctet (tget s.table.loaded (i / 4) false)]

/-- SLOT: number, tag, K, and the marks in A and B, whether B is active, whether the check agrees. -/
def State.slotItem (s : State) (i : Nat) : List Octet :=
  [u8 i, u8 (s.table.slot i).tag.val] ++ pair16 (s.table.slot i).k
  ++ [flagOctet [tget s.table.marksA i false, tget s.table.marksB i false, s.table.active = .b,
        (s.table.slot i).agrees]]

/-- The order fields of a CHAMBER item: none, queued or in flight (R190). -/
def State.chamberOrder (s : State) (c : Fin 4) : List Octet :=
  match s.cham.flight, s.cham.queue.find? (fun o => o.chamber = c) with
  | some f, q =>
    if f.order.chamber = c then
      [2, f.order.origin.code] ++ u16 f.order.amount ++ u16 f.pulses ++ u16 f.delivered
    else queuedOrder q
  | none, q => queuedOrder q
where
  /-- A queued order, or none: the fields that do not apply are 0. -/
  queuedOrder : Option Order → List Octet
    | some o => [1, o.origin.code] ++ u16 o.amount ++ u16 0 ++ u16 0
    | none => [0, 0] ++ u16 0 ++ u16 0 ++ u16 0

/-- CHAMBER: content, state, last end, order. -/
def State.chamberItem (s : State) (c : Fin 4) : List Octet := s.chamberOctets c ++ s.chamberOrder c

/-- The items of an Examine target, in order of index; PARAMETERS items hold index and value
(R189, R190). Targets by their codes: LADDER 0, BASELINE 1, SLOT 2, CHAMBER 3, PARAMETERS 4. -/
def State.examineItems (s : State) (target : Nat) : List (List Octet) :=
  match target with
  | 0 => s.spin.ladder.map ladderItem
  | 1 => (List.range 48).map s.baselineItem
  | 2 => (List.range 12).map s.slotItem
  | 3 => (List.range 4).map (fun i => s.chamberItem (fin4 i))
  | 4 =>
    match s.spin.params with
    | some p => p.values.zipIdx.map (fun v => u8 v.2 :: u16 v.1)
    | none => []
  | _ => []

end Sys2Proof.Machine
end

