-- ==== Sys2Proof/Machine/RequestOps.lean ====
section
/-! DEFINITION. What each request does when it is handled: the general checks in their order (08, R169, R170) and, for every
request of the catalogue, its own checks, its effect and the fields of its reply. -/

namespace Sys2Proof.Machine

/-- What handling a request gives: the state after it, the result code and the reply's fields after the
code (R168, R171). -/
structure Answer where
  state : State
  result : ResultCode
  fields : List Octet
  deriving DecidableEq, Repr

/-- R168: every check passes. -/
def State.accept (s : State) (fields : List Octet) : Answer := ⟨s, .ok, fields⟩

/-- R170: a refusal changes no state and carries the result code alone. -/
def State.refuse (s : State) (r : ResultCode) : Answer := ⟨s, r, []⟩

/-- R170, R156: the refusal with SUPPLY_FAULT carries the pending record and clears it. -/
def State.refuseSupply (s : State) (f : SupplyFault) : Answer :=
  ⟨s.setCham { s.cham with pendingFault := none }, .supplyFault, f.octets⟩

/-! ## Link Port: Identify, Status, Restart (R175 to R178) -/

/-- R175. -/
def State.answerIdentify (s : State) : Answer := s.accept s.identifyFields

/-- R174: an accepted Status clears the events-dropped mark and the dropped count. -/
def Link.clearDropped (l : Link) : Link := { l with eventsDropped := false, dropped := 0 }

/-- R176: the reply shows the mark and the count as they stood before. -/
def State.answerStatus (s : State) (b : List Octet) : Answer :=
  if 3 < b8 b 0 then s.refuse .range
  else (s.setLink s.link.clearDropped).accept (s.statusFields (b8 b 0))

/-- R25: the Rotation Timer at Restart; the revolution is discarded with its window and pending slot
edge. -/
def Rotation.restart (t : Rotation) : Rotation :=
  { t with
    rev := none, window := none, pendingSlot := none, counter := 0, sinceIndex := 0,
    fallback := true, indexLost := false }

/-- R25: the Excursion Sampler at Restart: a read or a conversion in progress completes, and neither
its pair nor its torque sample is stored. -/
def Sampler.restart (m : Sampler) : Sampler :=
  { ((m.readFromPending .nowhere).readLost.convFromPending .nowhere).dropSums with
    invalidRun := 0, idleStrike := false }

/-- R111, table 5.7: ladder and parameters are kept; the rest is as after power-on reset. -/
def Spin.restart (p : Spin) : Spin := { Spin.reset with ladder := p.ladder, params := p.params }

/-- R186. -/
def TraceQueue.restart (t : TraceQueue) : TraceQueue := { t with queue := [], gap := 0 }

/-- R178, R166: on the link side Restart sets the discard counts to 0 and keeps everything else. -/
def Link.restart (l : Link) : Link := { l with discards := .zero }

/-- R177: every block in its Restart state; service mode is left and the force marks are kept. -/
def State.restartAll (s : State) : State :=
  { s with
    rot := s.rot.restart, samp := s.samp.restart, est := .reset, weigh := .reset,
    table := s.table.restart, spin := s.spin.restart, cham := s.cham.restart,
    trace := s.trace.restart, link := s.link.restart, serv := { s.serv with mode := false } }

/-- R178: the entry of a queued order in a Restart reply. -/
def Order.restartEntry (o : Order) : List Octet :=
  u8 o.chamber.val :: u16 o.amount ++ u16 0 ++ [0]

/-- R178: the entry of the order in flight. -/
def Flight.restartEntry (f : Flight) : List Octet :=
  u8 f.order.chamber.val :: u16 f.order.amount ++ u16 f.delivered ++ [1]

/-- R178: the entries, the order in flight first and then the queue, oldest first. -/
def ChamberCtl.restartEntries (t : ChamberCtl) : List Octet :=
  (match t.flight with
   | some f => f.restartEntry
   | none => []) ++ t.queue.flatMap Order.restartEntry

/-- R177, R178. -/
def State.answerRestart (s : State) : Answer :=
  if s.spin.state ≠ .idle then s.refuse .state
  else s.restartAll.accept
    ([boolOctet s.serv.mode, u8 s.cham.orderCount] ++ s.cham.restartEntries)

/-! ## Profile (R91 to R95, R65, R66) -/

/-- R92: the new ladder; target, ceiling and last dwell step become absent. -/
def Spin.takeLadder (p : Spin) (l : List LadderStep) : Spin :=
  { p with ladder := l, target := none, ceiling := none, dwell := none }

/-- R91, R92. -/
def State.answerLoadLadder (s : State) (b : List Octet) : Answer :=
  if !ladderInRange b then s.refuse .range
  else if !ladderConsistent (bodyLadder b) then s.refuse .combination
  else if s.spin.state ≠ .idle then s.refuse .state
  else
    ((s.setSpin (s.spin.takeLadder (bodyLadder b))).setTable
      (s.table.dropBaseline.flushNow s.time)).accept []

/-- R95: the whole set is replaced and the attempt count lowered to max_attempts when above it. -/
def Spin.takeParams (p : Spin) (v : Params) : Spin :=
  { p with params := some v, attempts := min p.attempts v.maxAttempts }

/-- R94, R95. -/
def State.answerLoadParameters (s : State) (b : List Octet) : Answer :=
  if !(bodyParams b).inRange then s.refuse .range
  else if !(bodyParams b).consistent then s.refuse .combination
  else if s.spin.state ≠ .idle then s.refuse .state
  else (s.setSpin (s.spin.takeParams (bodyParams b))).accept []

/-- R65, R66. With no ladder the step count is 0, so every step is refused. -/
def State.answerLoadBaseline (s : State) (b : List Octet) : Answer :=
  if !baselineInRange b then s.refuse .range
  else if s.spin.stepCount ≤ b8 b 0 then s.refuse .combination
  else (s.setTable (s.table.loadEntries (b8 b 0) (bodyCoefficients b))).accept []

/-! ## Flush Table (R81) -/

/-- R81: the flush outcome, by the flush state when taken. -/
def FlushState.outcome : FlushState → Octet
  | .quiet => 0
  | .clearing _ _ false => 1
  | .clearing _ _ true => 2

/-- R81: the active set in the reply is the one after the request. -/
def State.answerFlushTable (s : State) : Answer :=
  (s.setTable (s.table.flushNow s.time)).accept
    [s.table.flush.outcome, (s.table.flushNow s.time).active.code]

/-! ## Sessions (R115, R116, R128, R129) -/

/-- R97: the combination test of a target; passed over while no ladder is loaded. -/
def Spin.badTarget (p : Spin) (t : Nat) : Bool := !p.ladder.isEmpty && !p.isDwell t

/-- R96: the combinations of a Start Spin, tested when both a ladder and parameters are loaded. -/
def Spin.badStart (p : Spin) (t : Nat) : Bool :=
  match p.params with
  | none => false
  | some v =>
    !p.ladder.isEmpty &&
      (p.speedOf 0 ≤ v.weighHigh || p.speedOf p.topStep < v.holdSpeed || p.badTarget t)

/-- R116: the session record of a session that begins, with DEN asserted and the demand at
weigh_high. -/
def Spin.begin (p : Spin) (now : Stamp) (t seconds : Nat) (continuation : Bool) : Spin :=
  { p.noRamp with
    target := some t, ceiling := some p.topStep, retreats := 0, plans := 0,
    attempts := if continuation then p.attempts else 0, dwell := none, closing := none,
    rampCount := 0, settle := 0, sessionTimer := some (msTimer now (seconds * 1000)), den := true,
    demand := p.par.weighHigh }

/-- R47, R22: at the acceptance no torque sample still to come counts, and the idle-strike mark is
clear. -/
def Sampler.startSession (m : Sampler) : Sampler :=
  { (m.convFromPending .nowhere).dropSums with idleStrike := false }

/-- R47: the torque sample of a slot edge taken before the acceptance counts for nothing. -/
def Rotation.dropTorque (t : Rotation) : Rotation :=
  { t with pendingSlot := t.pendingSlot.map (fun q => { q with torque := none }) }

/-- R154, R153: the balancer is available and the leak count 0. -/
def ChamberCtl.startSession (t : ChamberCtl) : ChamberCtl := { t with balancer := true, leak := 0 }

/-- R116, without the entry to WEIGHING. -/
def State.prepareSession (s : State) (t seconds : Nat) (continuation : Bool) : State :=
  { s with
    table := s.table.flushNow s.time
    spin := s.spin.begin s.time t seconds continuation
    cham := s.cham.startSession
    est := .reset
    weigh := .begin s.time
    samp := s.samp.startSession
    rot := s.rot.dropTorque
    trace := { s.trace with gap := 0 } }

/-- R116, R133: the session begins; a DFLT asserted at that moment aborts it in the same event. -/
def State.beginSession (s : State) (t seconds : Nat) (continuation : Bool) : State :=
  let s1 := (s.prepareSession t seconds continuation).enter .weighing .start
  if s1.pins.dflt then s1.abortOn .drive else s1

/-- R115, R116. -/
def State.answerStartSpin (s : State) (b : List Octet) : Answer :=
  if !startInRange b then s.refuse .range
  else if s.spin.badStart (b8 b 0) then s.refuse .combination
  else if s.spin.state ≠ .idle then s.refuse .state
  else if !s.profileComplete then ⟨s, .noProfile, [s.profileMarks]⟩
  else
    match s.cham.pendingFault with
    | some f => s.refuseSupply f
    | none =>
      let s1 := s.beginSession (b8 b 0) (b16 b 1) (flagBit b 3 0)
      s1.accept [u8 s1.spin.attempts]

/-- R128: the spin states that take a Set Target. -/
def SpinState.takesTarget : SpinState → Bool
  | .weighing | .ramping | .settling | .measuring | .balancing => true
  | .retreating | .winddown | .aborting | .idle => false

/-- R128: the step below which a new target makes the basket descend at once: none while no plateau has
been reached. -/
def Spin.below (p : Spin) (t : Nat) : Bool :=
  match p.dwell with
  | some c => t < c
  | none => false

/-- R128: what a new target does beyond being the target. DEDUCED (log 40): a redirected ramp takes its direction from the
current speed (R118), so it stays UP while that is below the new destination's speed, where R128's text has a redirection
turn an UP ramp into a DOWN one. -/
def State.applyTarget (s : State) (t : Nat) : State :=
  match s.spin.state with
  | .ramping =>
    if s.spin.dest.getD 0 ≤ t then s
    else if s.spin.below t then s.startRetreating t .target
    else s.setRamp t (s.rampDir t)
  | .settling => if s.spin.below t then s.startRetreating t .target else s
  | .measuring => if s.spin.below t then s.startRetreating t .target else s
  | .balancing => if s.spin.below t then s.startRetreating t .target else s
  | .weighing => s
  | .retreating => s
  | .winddown => s
  | .aborting => s
  | .idle => s

/-- R128. -/
def State.answerSetTarget (s : State) (b : List Octet) : Answer :=
  if 11 < b8 b 0 then s.refuse .range
  else if s.spin.badTarget (b8 b 0) then s.refuse .combination
  else if !s.spin.state.takesTarget then s.refuse .state
  else
    let s1 := (s.setSpin { s.spin with target := some (b8 b 0) }).applyTarget (b8 b 0)
    s1.accept [stepOctet s1.spin.target, stepOctet s1.spin.goal]

/-- R129, R130: an active session closes; otherwise nothing happens. -/
def State.closeActive (s : State) (c : Cause) : State :=
  if s.spin.state.active then s.enterWinddown c else s

/-- R129. -/
def State.answerStop (s : State) : Answer :=
  (s.closeActive .stop).accept [u8 (s.closeActive .stop).spin.state.code]

/-! ## Query Estimate (R38) -/

/-- The predictions of a Query Estimate reply. -/
def predictionOctets : List Prediction → List Octet
  | [] => []
  | q :: rest => u8 q.step :: u16 q.p ++ predictionOctets rest

/-- The fields of a Query Estimate reply (11.5). -/
def Estimate.octets (e : Estimate) : List Octet :=
  u8 e.step :: u32 e.newest.toNat ++ [u8 e.windowSize, boolOctet (!e.steady)] ++ u16 e.spread
  ++ pair16 e.avg ++ pair16 e.k ++ pair16 e.u ++ u16 e.size
  ++ [e.learned.code, u8 e.predictions.length] ++ predictionOctets e.predictions

/-- R38. -/
def State.answerQueryEstimate (s : State) : Answer :=
  match s.est.latest with
  | some e => s.accept e.octets
  | none => s.refuse .notReady

/-! ## Trace (R184, R185) -/

/-- R185: no other bit in the flag octet, n and m at most 15. -/
def traceSettingsInRange (b : List Octet) : Bool := b8 b 0 ≤ 3 && b8 b 1 ≤ 15 && b8 b 2 ≤ 15

/-- R185: all four settings are replaced. -/
def TraceQueue.takeSettings (t : TraceQueue) (b : List Octet) : TraceQueue :=
  { t with enable := flagBit b 0 0, push := flagBit b 0 1, n := b8 b 1, m := b8 b 2 }

/-- R185. -/
def State.answerSetTrace (s : State) (b : List Octet) : Answer :=
  if !traceSettingsInRange b then s.refuse .range
  else
    let t := s.trace.takeSettings b
    (s.setTrace t).accept
      [t.flagsOctet, u8 t.n, u8 t.m, u8 t.queue.length, t.marksOctet]

/-- R184. -/
def State.answerReadTrace (s : State) (b : List Octet) : Answer :=
  let n := b8 b 0
  if n = 0 ∨ 4 < n then s.refuse .range
  else if s.trace.push then s.refuse .state
  else
    let out := s.trace.queue.take n
    let t := { s.trace with queue := s.trace.queue.drop n }
    (s.setTrace t).accept
      ([u8 out.length, u8 t.queue.length, t.marksOctet] ++ traceOctets out)

/-! ## Service mode (R187 to R195) -/

/-- R187; the test of SVC belongs to the mode check. -/
def State.answerServiceEnter (s : State) : Answer :=
  if s.spin.state ≠ .idle then s.refuse .state
  else (s.setServ { s.serv with mode := true }).accept
    [boolOctet s.pins.svc, s.serv.forceOctet]

/-- R188: service mode ends, and with it every order, STOPPED under one FILL_END report. -/
def State.leaveService (s : State) : State :=
  (s.setServ { s.serv with mode := false }).endAll .stopped

/-- R188. -/
def State.answerServiceLeave (s : State) : Answer :=
  s.leaveService.accept [u8 s.cham.orderCount]

/-- R189: the items from the start index onward, up to the count. -/
def State.examined (s : State) (b : List Octet) : List (List Octet) :=
  ((s.examineItems (b8 b 0)).drop (b8 b 1)).take (b8 b 2)

/-- R189: a count outside 1 to 8, an unknown target, a start index at or beyond the item count. -/
def State.examineInRange (s : State) (b : List Octet) : Bool :=
  within 1 8 (b8 b 2) && b8 b 0 ≤ 4 && b8 b 1 < (s.examineItems (b8 b 0)).length

/-- R189, R190. -/
def State.answerExamine (s : State) (b : List Octet) : Answer :=
  if !s.examineInRange b then s.refuse .range
  else s.accept
    ([u8 (b8 b 0), u8 (b8 b 1), u8 (s.examined b).length] ++ (s.examined b).flatten)

/-- R191: the valid choice of a slot Deposit. -/
def validChoice : Nat → ValidChoice
  | 0 => .none
  | 1 => .active
  | _ => .standby

/-- R62, R191: the slot a Deposit writes. -/
def depositedSlot (b : List Octet) : Slot :=
  if flagBit b 8 0 then Slot.wrong (fin4 (b8 b 2)) (bPair b 3)
  else Slot.sound (fin4 (b8 b 2)) (bPair b 3)

/-- R191, R86: a Deposit whose target is SLOT. -/
def State.answerDepositSlot (s : State) (b : List Octet) : Answer :=
  if !depositSlotInRange b then s.refuse .range
  else if validChoice (b8 b 7) = .standby ∧ s.table.flush.isClearing then s.refuse .state
  else
    let s1 := s.setTable (s.table.deposit (b8 b 1) (depositedSlot b) (validChoice (b8 b 7)))
    s1.accept ([u8 targetSlot, u8 (b8 b 1)] ++ s1.slotItem (b8 b 1))

/-- R192: the account of a chamber is set; the CAPACITY test of R146 is made at once for a FILLING
chamber. -/
def State.depositContent (s : State) (c : Fin 4) (grams : Nat) : State :=
  let s1 := s.setCham (s.cham.setContent c (min grams capacity))
  if s1.cham.fillingChamber c ∧ s1.cham.content c = capacity then s1.finishOrder .capacity else s1

/-- R192: a Deposit whose target is CHAMBER. -/
def State.answerDepositChamber (s : State) (b : List Octet) : Answer :=
  if !depositChamberInRange b then s.refuse .range
  else
    let s1 := s.depositContent (fin4 (b8 b 1)) (b16 b 9)
    s1.accept ([u8 targetChamber, u8 (b8 b 1)] ++ s1.chamberItem (fin4 (b8 b 1)))

/-- R191, R192: a Deposit, by its target octet. -/
def State.answerDeposit (s : State) (b : List Octet) : Answer :=
  if b8 b 0 = targetSlot then s.answerDepositSlot b
  else if b8 b 0 = targetChamber then s.answerDepositChamber b
  else s.refuse .range

/-- R193: the order a Manual Fill gives. -/
def manualOrder (b : List Octet) : Order := ⟨fin4 (b8 b 0), b16 b 1, .service⟩

/-- R193, R151. -/
def State.answerManualFill (s : State) (b : List Octet) : Answer :=
  if 3 < b8 b 0 ∨ !within 1 400 (b16 b 1) then s.refuse .range
  else if !s.spin.paramsLoaded then s.refuse .notReady
  else
    match s.cham.pendingFault with
    | some f => s.refuseSupply f
    | none =>
      (s.takeOrder (manualOrder b)).accept
        ((s.orderCase (manualOrder b)).code :: u16 (s.clampOrder (manualOrder b)).amount)

/-- R194: Stop Fill for one chamber, with the number of orders it ends (log 30). -/
def State.stopChamber (s : State) (c : Fin 4) : State × Nat :=
  if s.cham.fillingChamber c then (s.endAndGoOn .stopped, 1)
  else
    match s.cham.queue.find? (fun o => o.chamber = c) with
    | some o =>
      ((s.setCham { s.cham with queue := s.cham.queue.filter (fun q => q.chamber ≠ c) }).endUnstarted
        o .stopped [], 1)
    | none => (s, 0)

/-- The value ALL of a Stop Fill (11.4). -/
def allChambers : Nat := 4

/-- R194, R151. -/
def State.answerStopFill (s : State) (b : List Octet) : Answer :=
  if allChambers < b8 b 0 then s.refuse .range
  else if b8 b 0 = allChambers then (s.endAll .stopped).accept [u8 s.cham.orderCount]
  else
    let r := s.stopChamber (fin4 (b8 b 0))
    r.1.accept [u8 r.2]

/-- R195. -/
def State.answerForceBaseline (s : State) (b : List Octet) : Answer :=
  if 3 < b8 b 0 then s.refuse .range
  else
    let v := { s.serv with forceLow := flagBit b 0 0, forceHigh := flagBit b 0 1 }
    (s.setServ v).accept [v.forceOctet]

/-! ## The general checks and the handling of a frame (R168 to R171) -/

/-- R169, check 2; R187 adds the test of SVC for Service Enter. -/
def State.modeOk (s : State) (k : RequestKind) : Bool :=
  match k.modeClass with
  | .normal => !s.serv.mode && (k != .serviceEnter || s.pins.svc)
  | .service => s.serv.mode
  | .any => true

/-- Checks 3 to 7 and the effect of a request, by the block that owns it. -/
def State.ownAnswer (s : State) (k : RequestKind) (b : List Octet) : Answer :=
  match k with
  | .identify => s.answerIdentify
  | .status => s.answerStatus b
  | .restart => s.answerRestart
  | .loadLadder => s.answerLoadLadder b
  | .loadParameters => s.answerLoadParameters b
  | .loadBaseline => s.answerLoadBaseline b
  | .flushTable => s.answerFlushTable
  | .startSpin => s.answerStartSpin b
  | .setTarget => s.answerSetTarget b
  | .stop => s.answerStop
  | .queryEstimate => s.answerQueryEstimate
  | .setTrace => s.answerSetTrace b
  | .readTrace => s.answerReadTrace b
  | .serviceEnter => s.answerServiceEnter
  | .serviceLeave => s.answerServiceLeave
  | .examine => s.answerExamine b
  | .deposit => s.answerDeposit b
  | .manualFill => s.answerManualFill b
  | .stopFill => s.answerStopFill b
  | .forceBaseline => s.answerForceBaseline b

/-- R169: the checks in their order. -/
def State.answer (s : State) (k : RequestKind) (b : List Octet) : Answer :=
  if !k.lengthOk b then s.refuse .malformed
  else if !s.modeOk k then s.refuse .mode
  else s.ownAnswer k b

/-- R171: the reply of an answer: the request's kind plus 40h, its tag, the result and the fields. -/
def Answer.reply (a : Answer) (f : Frame) : Reply := ⟨f.kind + 0x40, f.tag, a.result, a.fields⟩

/-- R170: the reply to a kind that names no request. -/
def unknownReply (f : Frame) : Reply := ⟨0x7F, f.tag, .malformed, [f.kind]⟩

/-- R168: what handling a frame gives. -/
def State.answerFrame (s : State) (f : Frame) : State × Reply :=
  match requestOf f.kind with
  | some k => ((s.answer k f.body).state, (s.answer k f.body).reply f)
  | none => (s, unknownReply f)

/-- R168, R171: the frame is handled and its reply placed in the reply slot. -/
def State.handle (s : State) (f : Frame) : State :=
  (s.answerFrame f).1.setLink { (s.answerFrame f).1.link with replySlot := some (s.answerFrame f).2 }

end Sys2Proof.Machine
end

