-- ==== Sys2Proof/Machine/LinkOps.lean ====
section
/-! DEFINITION. The Link Port (08): the receiver, the discard counts, the receive buffer, the transmitter's choice, and the
shape every command's meaning has. -/

namespace Sys2Proof.Machine

/-! ## Discards (R166) -/

/-- Why a frame is discarded. -/
inductive DiscardReason where
  | length | line | gap | crc | full
  deriving DecidableEq, Repr

/-- R166: the count of the reason goes up, saturating at 255. -/
def Discards.count (d : Discards) : DiscardReason → Discards
  | .length => { d with length := countUp 255 d.length }
  | .line => { d with line := countUp 255 d.line }
  | .gap => { d with gap := countUp 255 d.gap }
  | .crc => { d with crc := countUp 255 d.crc }
  | .full => { d with full := countUp 255 d.full }

def State.discard (s : State) (r : DiscardReason) : State :=
  s.setLink { s.link with discards := s.link.discards.count r }

/-! ## An octet on the line (R162) -/

/-- R162: the level of bit `i` of an octet on LTX or LRX: bit 0 is the start bit, low; bits 1 to 8 are the data bits,
least significant first; bit 9 is the stop bit, high. There is no parity bit. -/
def octetLevel (o : Octet) (i : Nat) : Bool :=
  if i = 0 then false else if i ≤ 8 then o.getLsbD (i - 1) else true

/-- R162: the first `n` data bits of an octet on the line. -/
def dataBits (line : Nat → Bool) : Nat → Octet
  | 0 => 0
  | n + 1 => dataBits line n ||| (BitVec.ofBool (line (n + 1))).setWidth 8 <<< n

/-- R162: the octet that ten bits on LRX deliver; none, a line error, when the stop bit is low. -/
def lineOctet (line : Nat → Bool) : Option Octet := if line 9 then some (dataBits line 8) else none

/-- R162: the level of LTX in bit `i` of a frame being sent, counted from the start bit of its first octet over the ten
bits of each octet; high after its last. -/
def Frame.level (f : Frame) (i : Nat) : Bool :=
  match f.wire[i / 10]? with
  | some o => octetLevel o (i % 10)
  | none => true

/-- R162: the level of LTX: that of the frame being sent, and high while none is. -/
def State.ltx (s : State) (i : Nat) : Bool :=
  match s.link.tx with
  | some t => t.frame.level i
  | none => true

/-! ## The receiver (R164) -/

/-- What an octet makes of the frame in assembly. -/
inductive RxEvent where
  | quiet
  | discard (r : DiscardReason)
  | frame (f : Frame)
  deriving DecidableEq, Repr

/-- The content octets of a completed frame: kind, tag, body. -/
def contentFrame (got : List Octet) : Frame := ⟨got.getD 0 0, got.getD 1 0, got.drop 2⟩

/-- R164, R166: the receiver takes an octet. -/
def rxOctet : RxState → Octet → RxState × RxEvent
  | .hunting, o => if o = startOctet then (.length, .quiet) else (.hunting, .quiet)
  | .length, o =>
    if o = startOctet then (.length, .discard .length)
    else if 2 ≤ o.toNat ∧ o.toNat ≤ 66 then (.content o [], .quiet)
    else (.hunting, .discard .length)
  | .content n got, o =>
    if got.length + 1 < n.toNat then (.content n (got ++ [o]), .quiet)
    else (.check n (got ++ [o]) none, .quiet)
  | .check n got none, o => (.check n got (some o), .quiet)
  | .check n got (some c), o =>
    (.hunting,
      if crcOctets (n :: got) = [c, o] then .frame (contentFrame got) else .discard .crc)

/-- The receiver over a run of octets, from a state: the state it ends in and the events in order. -/
def rxRun : RxState → List Octet → RxState × List RxEvent
  | r, [] => (r, [])
  | r, o :: rest => ((rxRun (rxOctet r o).1 rest).1, (rxOctet r o).2 :: (rxRun (rxOctet r o).1 rest).2)

/-- R165: the gap timer runs while a frame is in assembly. -/
def gapTimerOf (now : Stamp) : RxState → Option Timer
  | .hunting => none
  | _ => some (msTimer now gapMs)

/-- R164, R165: the receiver's new state, with its gap timer. -/
def Link.setRx (l : Link) (now : Stamp) (r : RxState) : Link :=
  { l with rx := r, gapTimer := gapTimerOf now r }

/-! ## The receive buffer (R167) -/

/-- R167: a frame is offered to the receive buffer. -/
def State.offerFrame (s : State) (f : Frame) : State :=
  match s.link.inService with
  | none => (s.setLink { s.link with inService := some f }).handle f
  | some _ =>
    match s.link.waiting with
    | none => s.setLink { s.link with waiting := some f }
    | some _ => s.discard .full

/-- R164, R166: what follows the receiver's event. -/
def State.rxEvent (s : State) : RxEvent → State
  | .quiet => s
  | .discard r => s.discard r
  | .frame f => s.offerFrame f

/-- R164 to R166: an octet event. -/
def State.receive (s : State) (o : Octet) : State :=
  (s.setLink (s.link.setRx s.time (rxOctet s.link.rx o).1)).rxEvent (rxOctet s.link.rx o).2

/-- R164, R165: the frame in assembly is discarded, if there is one. -/
def State.dropAssembly (s : State) (r : DiscardReason) : State :=
  match s.link.rx with
  | .hunting => s
  | _ => (s.setLink (s.link.setRx s.time .hunting)).discard r

/-- R162, R164: ten bits on LRX: an octet event at the end of a high stop bit, a line error otherwise. -/
def State.lineEvent (s : State) (line : Nat → Bool) : State :=
  match lineOctet line with
  | some o => s.receive o
  | none => s.dropAssembly .line

/-! ## The transmitter (R172, R183) -/

/-- R172: the transmitter's choice when it is free: the reply, the oldest report, then, in PUSH
delivery, the oldest trace record. A report or a record leaves its queue when it is taken. -/
def State.arbitrate (s : State) : State :=
  if s.link.tx.isSome then s
  else
    match s.link.replySlot, s.link.reports, s.trace.push, s.trace.queue with
    | some r, _, _, _ => s.setLink { s.link with tx := some ⟨r.frame, true⟩ }
    | none, e :: rest, _, _ =>
      s.setLink { s.link with tx := some ⟨e.frame, false⟩, reports := rest }
    | none, [], true, q :: rest =>
      (s.setLink { s.link with tx := some ⟨q.frame, false⟩ }).setTrace
        { s.trace with queue := rest }
    | none, [], _, _ => s

/-- R167: the frame in service leaves the buffer; the waiting frame, if there is one, is taken into
service and handled. -/
def State.serviceDone (s : State) : State :=
  let s1 := s.setLink
    { s.link with replySlot := none, inService := s.link.waiting, waiting := none }
  match s.link.waiting with
  | some f => s1.handle f
  | none => s1

/-- R172: the last octet of the frame being sent ends; of a reply, it ends the service of its frame. -/
def State.frameEnds (s : State) : State :=
  match s.link.tx with
  | none => s
  | some t =>
    let s1 := s.setLink { s.link with tx := none }
    if t.isReply then s1.serviceDone else s1

/-! ## The shape of every command -/

/-- A command: what has passed since the last one (log 1), its effect, and at its end the transmitter's
choice (R172). No command stops the block. -/
def event (w : Wait) (s : State) (effect : State → State) : Host.Outcome State Fault Refusal :=
  .next (effect (s.begin w)).arbitrate

/-- The event of a timer: nothing but the passing of time unless it runs and its period has passed
(log 3). -/
def State.whenDue (s : State) (t : Option Timer) (effect : State → State) : State :=
  if timerDue t s.time then effect s else s

end Sys2Proof.Machine
end

