-- ==== Sys2Proof/Machine/BasketEvents.lean ====
section
/-! DEFINITION. The commands of the basket (01): index and slot edges, pairing expiries, read and conversion completions,
standstill. -/

namespace Sys2Proof.Machine

/-- INDEX_EDGE (R7, R9 to R14). -/
def execIndexEdge (w : Wait) (slotFollows : Bool) (s : State) :
    Host.Outcome State Fault Refusal :=
  event w s (fun s => s.indexEdge slotFollows)

/-- SLOT_EDGE (R6 to R8, R15 to R19, R23). -/
def execSlotEdge (w : Wait) (s : State) : Host.Outcome State Fault Refusal :=
  event w s (fun s => s.slotEdge)

/-- R7, R9: the pairing window closes and its index edge stays unpaired. -/
def State.closeWindow (s : State) : State := s.setRot { s.rot with window := none }

/-- PAIRING_WINDOW_EXPIRY (R7). -/
def execPairingWindowExpiry (w : Wait) (s : State) : Host.Outcome State Fault Refusal :=
  event w s (fun s => s.whenDue s.rot.window State.closeWindow)

/-- PENDING_PAIRING_EXPIRY (R7, R8). -/
def execPendingPairingExpiry (w : Wait) (s : State) : Host.Outcome State Fault Refusal :=
  event w s (fun s => s.whenDue (s.rot.pendingSlot.map PendingSlot.timer) State.joinPending)

/-- R18: the read in progress completes; the codes are taken from SDI bit by bit. -/
def State.readComplete (s : State) (x y : BitVec 12) : State :=
  match s.samp.read with
  | some r => s.readDone r.dest (sdiPair (sensorLevel x y))
  | none => s

/-- READ_COMPLETE (R18 to R22). -/
def execReadComplete (w : Wait) (x y : BitVec 12) (s : State) :
    Host.Outcome State Fault Refusal :=
  event w s (fun s =>
    s.whenDue (s.samp.read.map ReadInProgress.timer) (fun s => s.readComplete x y))

/-- R23: the conversion in progress completes with this code. -/
def State.conversionComplete (s : State) (code : BitVec 10) : State :=
  match s.samp.conv with
  | some c => s.conversionDone c.dest (torqueOf code)
  | none => s

/-- CONVERSION_COMPLETE (R23, R50, R52). -/
def execConversionComplete (w : Wait) (code : BitVec 10) (s : State) :
    Host.Outcome State Fault Refusal :=
  event w s (fun s =>
    s.whenDue (s.samp.conv.map Conversion.timer) (fun s => s.conversionComplete code))

/-- STANDSTILL_EXPIRY (R16, R132, R138). -/
def execStandstillExpiry (w : Wait) (s : State) : Host.Outcome State Fault Refusal :=
  event w s (fun s => s.whenDue s.rot.standstill State.standstill)

end Sys2Proof.Machine
end

