-- ==== Sys2Proof/Machine/LinkEvents.lean ====
section
/-! DEFINITION. Power-on reset and the commands of the main-board link (08 R162 to R167, R172, R179). -/

namespace Sys2Proof.Machine

/-- Every block in its power-on state with LSEL at this level (R24, R45, R60, R88, R159, R179, R186);
the input levels and the model's own fields are no state of the part (log 18). -/
def State.powerOnReset (s : State) (lsel : Bool) : State :=
  State.powerOn lsel s.pins s.draw s.pending

/-- POWER_ON_RESET (R5, R24, R45, R60, R88, R90, R93, R111, R159, R162, R179, R186, R187, R195). -/
def execPowerOnReset (w : Wait) (lsel : Bool) (s : State) : Host.Outcome State Fault Refusal :=
  event w s (fun s => s.powerOnReset lsel)

/-- OCTET_RECEIVED (R162, R164 to R168): the octet comes as its ten bits on LRX. -/
def execOctetReceived (w : Wait) (octet : Octet) (s : State) :
    Host.Outcome State Fault Refusal :=
  event w s (fun s => s.lineEvent (octetLevel octet))

/-- LINE_ERROR (R162, R164): ten bits on LRX with a low stop bit. The data bits reach nothing; ten low bits stand for
them. -/
def execLineError (w : Wait) (s : State) : Host.Outcome State Fault Refusal :=
  event w s (fun s => s.lineEvent (fun _ => false))

/-- GAP_TIMER_EXPIRY (R165). -/
def execGapTimerExpiry (w : Wait) (s : State) : Host.Outcome State Fault Refusal :=
  event w s (fun s => s.whenDue s.link.gapTimer (fun s => s.dropAssembly .gap))

/-- FRAME_SENT (R167, R172; log 23). -/
def execFrameSent (w : Wait) (s : State) : Host.Outcome State Fault Refusal :=
  event w s State.frameEnds

end Sys2Proof.Machine
end

