-- ==== Sys2Proof/Machine/Requests.lean ====
section
/-! DEFINITION. The requests of the main controller (08, Request catalogue): each command offers one request frame, whose
CRC agrees, to the receive buffer (R166 to R168; log 5). What a request does when it is handled stands in RequestOps. -/

namespace Sys2Proof.Machine

/-- A request frame is offered to the receive buffer. -/
def request (w : Wait) (kind tag : Octet) (body : List Octet) (s : State) :
    Host.Outcome State Fault Refusal :=
  event w s (fun s => s.offerFrame ⟨kind, tag, body⟩)

/-- IDENTIFY (R175). -/
def execIdentify (w : Wait) (tag : Octet) (body : List Octet) (s : State) :
    Host.Outcome State Fault Refusal :=
  request w RequestKind.identify.octet tag body s

/-- STATUS (R176). -/
def execStatus (w : Wait) (tag : Octet) (body : List Octet) (s : State) :
    Host.Outcome State Fault Refusal :=
  request w RequestKind.status.octet tag body s

/-- RESTART (R177). -/
def execRestart (w : Wait) (tag : Octet) (body : List Octet) (s : State) :
    Host.Outcome State Fault Refusal :=
  request w RequestKind.restart.octet tag body s

/-- LOAD_LADDER (R91, R92). -/
def execLoadLadder (w : Wait) (tag : Octet) (body : List Octet) (s : State) :
    Host.Outcome State Fault Refusal :=
  request w RequestKind.loadLadder.octet tag body s

/-- LOAD_PARAMETERS (R94, R95). -/
def execLoadParameters (w : Wait) (tag : Octet) (body : List Octet) (s : State) :
    Host.Outcome State Fault Refusal :=
  request w RequestKind.loadParameters.octet tag body s

/-- LOAD_BASELINE (R65, R66). -/
def execLoadBaseline (w : Wait) (tag : Octet) (body : List Octet) (s : State) :
    Host.Outcome State Fault Refusal :=
  request w RequestKind.loadBaseline.octet tag body s

/-- FLUSH_TABLE (R81). -/
def execFlushTable (w : Wait) (tag : Octet) (body : List Octet) (s : State) :
    Host.Outcome State Fault Refusal :=
  request w RequestKind.flushTable.octet tag body s

/-- START_SPIN (R115, R116). -/
def execStartSpin (w : Wait) (tag : Octet) (body : List Octet) (s : State) :
    Host.Outcome State Fault Refusal :=
  request w RequestKind.startSpin.octet tag body s

/-- SET_TARGET (R128). -/
def execSetTarget (w : Wait) (tag : Octet) (body : List Octet) (s : State) :
    Host.Outcome State Fault Refusal :=
  request w RequestKind.setTarget.octet tag body s

/-- STOP (R129). -/
def execStop (w : Wait) (tag : Octet) (body : List Octet) (s : State) :
    Host.Outcome State Fault Refusal :=
  request w RequestKind.stop.octet tag body s

/-- QUERY_ESTIMATE (R38). -/
def execQueryEstimate (w : Wait) (tag : Octet) (body : List Octet) (s : State) :
    Host.Outcome State Fault Refusal :=
  request w RequestKind.queryEstimate.octet tag body s

/-- SET_TRACE (R185). -/
def execSetTrace (w : Wait) (tag : Octet) (body : List Octet) (s : State) :
    Host.Outcome State Fault Refusal :=
  request w RequestKind.setTrace.octet tag body s

/-- READ_TRACE (R184). -/
def execReadTrace (w : Wait) (tag : Octet) (body : List Octet) (s : State) :
    Host.Outcome State Fault Refusal :=
  request w RequestKind.readTrace.octet tag body s

/-- SERVICE_ENTER (R187). -/
def execServiceEnter (w : Wait) (tag : Octet) (body : List Octet) (s : State) :
    Host.Outcome State Fault Refusal :=
  request w RequestKind.serviceEnter.octet tag body s

/-- SERVICE_LEAVE (R188). -/
def execServiceLeave (w : Wait) (tag : Octet) (body : List Octet) (s : State) :
    Host.Outcome State Fault Refusal :=
  request w RequestKind.serviceLeave.octet tag body s

/-- EXAMINE (R189, R190). -/
def execExamine (w : Wait) (tag : Octet) (body : List Octet) (s : State) :
    Host.Outcome State Fault Refusal :=
  request w RequestKind.examine.octet tag body s

/-- DEPOSIT_SLOT (R191, R86): a Deposit whose target octet is SLOT (log 6). -/
def execDepositSlot (w : Wait) (tag : Octet) (fields : List Octet) (s : State) :
    Host.Outcome State Fault Refusal :=
  request w RequestKind.deposit.octet tag (u8 targetSlot :: fields) s

/-- DEPOSIT_CHAMBER (R192): a Deposit whose target octet is CHAMBER (log 6). -/
def execDepositChamber (w : Wait) (tag : Octet) (fields : List Octet) (s : State) :
    Host.Outcome State Fault Refusal :=
  request w RequestKind.deposit.octet tag (u8 targetChamber :: fields) s

/-- MANUAL_FILL (R193). -/
def execManualFill (w : Wait) (tag : Octet) (body : List Octet) (s : State) :
    Host.Outcome State Fault Refusal :=
  request w RequestKind.manualFill.octet tag body s

/-- STOP_FILL (R194). -/
def execStopFill (w : Wait) (tag : Octet) (body : List Octet) (s : State) :
    Host.Outcome State Fault Refusal :=
  request w RequestKind.stopFill.octet tag body s

/-- FORCE_BASELINE (R195). -/
def execForceBaseline (w : Wait) (tag : Octet) (body : List Octet) (s : State) :
    Host.Outcome State Fault Refusal :=
  request w RequestKind.forceBaseline.octet tag body s

/-- UNKNOWN_KIND (R170): a frame whose kind names no request. -/
def execUnknownKind (w : Wait) (kind tag : Octet) (body : List Octet) (s : State) :
    Host.Outcome State Fault Refusal :=
  request w kind tag body s

end Sys2Proof.Machine
end

