-- ==== Sys2Proof/Machine/SessionEvents.lean ====
section
/-! DEFINITION. The commands of a session's timers, of the drive and of the Influence Table's clear (03 R56, 04 R78, 06). -/

namespace Sys2Proof.Machine

/-- R133: DFLT is asserted. -/
def State.driveFault (s : State) : State := (s.setPins { s.pins with dflt := true }).abortOn .drive

/-- DFLT_ASSERTED (R133). -/
def execDfltAsserted (w : Wait) (s : State) : Host.Outcome State Fault Refusal :=
  event w s State.driveFault

/-- R56: at the weigh limit a weighing still in progress fails with LIMIT. -/
def State.weighLimit (s : State) : State :=
  if s.weigh.phase = .off then s else s.endWeighing s.weigh.limitEnd

/-- WEIGH_LIMIT_EXPIRY (R56, R57). -/
def execWeighLimitExpiry (w : Wait) (s : State) : Host.Outcome State Fault Refusal :=
  event w s (fun s => s.whenDue s.weigh.limit State.weighLimit)

/-- R126: an UP ramp to a step above 0 falls short: the ceiling is lowered to the dwell step below and
the basket goes down to it. -/
def State.shortfall (s : State) (i : Nat) : State :=
  (s.lowerCeiling (s.spin.dwellBelow i) .shortfall).startRetreating (s.spin.dwellBelow i) .shortfall

/-- R126, R127: a ramp does not end within its allowance. -/
def State.rampTimeout (s : State) : State :=
  let i := s.spin.dest.getD 0
  if s.spin.dir = some .up ∧ 0 < i then s.shortfall i else s.abortOn .drive

/-- RAMP_TIMEOUT (R126, R127). -/
def execRampTimeout (w : Wait) (s : State) : Host.Outcome State Fault Refusal :=
  event w s (fun s => s.whenDue s.spin.rampTimer State.rampTimeout)

/-- R130: the session timer expires. -/
def State.durationEnds (s : State) : State := s.closeActive .duration

/-- SESSION_TIMER_EXPIRY (R130). -/
def execSessionTimerExpiry (w : Wait) (s : State) : Host.Outcome State Fault Refusal :=
  event w s (fun s => s.whenDue s.spin.sessionTimer State.durationEnds)

/-- R78, R80: one expiry of the clear timer. -/
def State.clearStep (s : State) : State := s.setTable (s.table.clearStep s.time)

/-- CLEAR_EXPIRY (R78, R80). -/
def execClearExpiry (w : Wait) (s : State) : Host.Outcome State Fault Refusal :=
  event w s (fun s => s.whenDue s.table.flush.timer State.clearStep)

end Sys2Proof.Machine
end

