-- ==== Sys2Proof/Machine/WaterEvents.lean ====
section
/-! DEFINITION. The commands of the water supply and of the service strap (07 R142, R146, R152, R153; 10 R188). -/

namespace Sys2Proof.Machine

/-- R146: a pulse counted for the order in flight, and the end it may bring. -/
def State.meterPulse (s : State) (f : Flight) : State :=
  let s1 := s.setCham (s.cham.meter s.time s.spin.par f)
  match s1.cham.fillDone with
  | some r => s1.finishOrder r
  | none => s1

/-- R146, R153: a flow pulse is counted for the order in flight, or is a leak pulse. -/
def State.flowPulse (s : State) : State :=
  match s.cham.flight with
  | some f => s.meterPulse f
  | none => s.leakPulse

/-- FLOW_PULSE (R146, R153). -/
def execFlowPulse (w : Wait) (s : State) : Host.Outcome State Fault Refusal :=
  event w s State.flowPulse

/-- R188: SVC falls; while service mode is on, that ends it. -/
def State.svcFalls (s : State) : State :=
  let s1 := s.setPins { s.pins with svc := false }
  if s1.serv.mode then s1.leaveService else s1

/-- SVC_FALLING (R188). -/
def execSvcFalling (w : Wait) (s : State) : Host.Outcome State Fault Refusal :=
  event w s State.svcFalls

/-- R142: while parameters are loaded and the speed is below hold_speed the chambers lose water. -/
def State.bleed (s : State) : State :=
  let t := { s.cham with bleedTimer := s.cham.bleedTimer.again }
  match s.spin.params with
  | some p => s.setCham (if s.rot.speed < p.holdSpeed then t.bleedAll p.bleed else t)
  | none => s.setCham t

/-- BLEED_EXPIRY (R142). -/
def execBleedExpiry (w : Wait) (s : State) : Host.Outcome State Fault Refusal :=
  event w s (fun s => s.whenDue (some s.cham.bleedTimer) State.bleed)

/-- R154, R155: a supply fault clears the balancer-available mark and becomes the pending one. -/
def ChamberCtl.noteSupply (t : ChamberCtl) (f : Flight) : ChamberCtl :=
  { t with
    balancer := false
    pendingFault := some (.supply f.order.chamber f.order.amount f.delivered) }

/-- R152: the orders end SUPPLY, the fault is noted and reported, and the end of the plan's last order
is a fill end (R148; log 31). -/
def State.supplyFault (s : State) (f : Flight) : State :=
  let s1 := s.endAll .supply
  (giveReport (.fault (.supply f.order.chamber f.order.amount f.delivered))
    (s1.setCham (s1.cham.noteSupply f))).fillEndIfDone s.cham.plannerInFlight

/-- R152: the supply timer runs only while an order is in flight. -/
def State.supplyTimeout (s : State) : State :=
  match s.cham.flight with
  | some f => s.supplyFault f
  | none => s

/-- SUPPLY_TIMEOUT (R152). -/
def execSupplyTimeout (w : Wait) (s : State) : Host.Outcome State Fault Refusal :=
  event w s (fun s => s.whenDue s.cham.supplyTimer State.supplyTimeout)

end Sys2Proof.Machine
end

