-- ==== Sys2Proof/Machine/Dispatch.lean ====
section
/-! DEFINITION. The meaning of each command: one arm per constructor. -/

namespace Sys2Proof.Machine

def exec (i : Instr) (s : State) : Host.Outcome State Fault Refusal :=
  match i with
  | .powerOnReset w lsel => Sys2Proof.Machine.execPowerOnReset w lsel s
  | .indexEdge w slotFollows => Sys2Proof.Machine.execIndexEdge w slotFollows s
  | .slotEdge w => Sys2Proof.Machine.execSlotEdge w s
  | .pairingWindowExpiry w => Sys2Proof.Machine.execPairingWindowExpiry w s
  | .pendingPairingExpiry w => Sys2Proof.Machine.execPendingPairingExpiry w s
  | .readComplete w x y => Sys2Proof.Machine.execReadComplete w x y s
  | .conversionComplete w code => Sys2Proof.Machine.execConversionComplete w code s
  | .standstillExpiry w => Sys2Proof.Machine.execStandstillExpiry w s
  | .dfltAsserted w => Sys2Proof.Machine.execDfltAsserted w s
  | .flowPulse w => Sys2Proof.Machine.execFlowPulse w s
  | .svcFalling w => Sys2Proof.Machine.execSvcFalling w s
  | .octetReceived w octet => Sys2Proof.Machine.execOctetReceived w octet s
  | .lineError w => Sys2Proof.Machine.execLineError w s
  | .gapTimerExpiry w => Sys2Proof.Machine.execGapTimerExpiry w s
  | .frameSent w => Sys2Proof.Machine.execFrameSent w s
  | .weighLimitExpiry w => Sys2Proof.Machine.execWeighLimitExpiry w s
  | .rampTimeout w => Sys2Proof.Machine.execRampTimeout w s
  | .sessionTimerExpiry w => Sys2Proof.Machine.execSessionTimerExpiry w s
  | .clearExpiry w => Sys2Proof.Machine.execClearExpiry w s
  | .bleedExpiry w => Sys2Proof.Machine.execBleedExpiry w s
  | .supplyTimeout w => Sys2Proof.Machine.execSupplyTimeout w s
  | .identify w tag body => Sys2Proof.Machine.execIdentify w tag body s
  | .status w tag body => Sys2Proof.Machine.execStatus w tag body s
  | .restart w tag body => Sys2Proof.Machine.execRestart w tag body s
  | .loadLadder w tag body => Sys2Proof.Machine.execLoadLadder w tag body s
  | .loadParameters w tag body => Sys2Proof.Machine.execLoadParameters w tag body s
  | .loadBaseline w tag body => Sys2Proof.Machine.execLoadBaseline w tag body s
  | .flushTable w tag body => Sys2Proof.Machine.execFlushTable w tag body s
  | .startSpin w tag body => Sys2Proof.Machine.execStartSpin w tag body s
  | .setTarget w tag body => Sys2Proof.Machine.execSetTarget w tag body s
  | .stop w tag body => Sys2Proof.Machine.execStop w tag body s
  | .queryEstimate w tag body => Sys2Proof.Machine.execQueryEstimate w tag body s
  | .setTrace w tag body => Sys2Proof.Machine.execSetTrace w tag body s
  | .readTrace w tag body => Sys2Proof.Machine.execReadTrace w tag body s
  | .serviceEnter w tag body => Sys2Proof.Machine.execServiceEnter w tag body s
  | .serviceLeave w tag body => Sys2Proof.Machine.execServiceLeave w tag body s
  | .examine w tag body => Sys2Proof.Machine.execExamine w tag body s
  | .depositSlot w tag fields => Sys2Proof.Machine.execDepositSlot w tag fields s
  | .depositChamber w tag fields => Sys2Proof.Machine.execDepositChamber w tag fields s
  | .manualFill w tag body => Sys2Proof.Machine.execManualFill w tag body s
  | .stopFill w tag body => Sys2Proof.Machine.execStopFill w tag body s
  | .forceBaseline w tag body => Sys2Proof.Machine.execForceBaseline w tag body s
  | .unknownKind w kind tag body => Sys2Proof.Machine.execUnknownKind w kind tag body s

end Sys2Proof.Machine
end

