-- ==== Sys2Proof/Safety.lean ====
section
/-! DEFINITION. What a sound state of the block is: the relations between fields that the manual's rules give and that
every command keeps. Each is decidable on a given state. -/

namespace Sys2Proof

/-- What has passed before a command (log 1). -/
def Instr.wait : Instr → Wait
  | .powerOnReset w _ => w
  | .indexEdge w _ => w
  | .slotEdge w => w
  | .pairingWindowExpiry w => w
  | .pendingPairingExpiry w => w
  | .readComplete w _ _ => w
  | .conversionComplete w _ => w
  | .standstillExpiry w => w
  | .dfltAsserted w => w
  | .flowPulse w => w
  | .svcFalling w => w
  | .octetReceived w _ => w
  | .lineError w => w
  | .gapTimerExpiry w => w
  | .frameSent w => w
  | .weighLimitExpiry w => w
  | .rampTimeout w => w
  | .sessionTimerExpiry w => w
  | .clearExpiry w => w
  | .bleedExpiry w => w
  | .supplyTimeout w => w
  | .identify w _ _ => w
  | .status w _ _ => w
  | .restart w _ _ => w
  | .loadLadder w _ _ => w
  | .loadParameters w _ _ => w
  | .loadBaseline w _ _ => w
  | .flushTable w _ _ => w
  | .startSpin w _ _ => w
  | .setTarget w _ _ => w
  | .stop w _ _ => w
  | .queryEstimate w _ _ => w
  | .setTrace w _ _ => w
  | .readTrace w _ _ => w
  | .serviceEnter w _ _ => w
  | .serviceLeave w _ _ => w
  | .examine w _ _ => w
  | .depositSlot w _ _ => w
  | .depositChamber w _ _ => w
  | .manualFill w _ _ => w
  | .stopFill w _ _ => w
  | .forceBaseline w _ _ => w
  | .unknownKind w _ _ _ => w

/-- The request frame a command offers to the receive buffer; none for the other commands (R166). -/
def Instr.frame : Instr → Option Machine.Frame
  | .powerOnReset _ _ => none
  | .indexEdge _ _ => none
  | .slotEdge _ => none
  | .pairingWindowExpiry _ => none
  | .pendingPairingExpiry _ => none
  | .readComplete _ _ _ => none
  | .conversionComplete _ _ => none
  | .standstillExpiry _ => none
  | .dfltAsserted _ => none
  | .flowPulse _ => none
  | .svcFalling _ => none
  | .octetReceived _ _ => none
  | .lineError _ => none
  | .gapTimerExpiry _ => none
  | .frameSent _ => none
  | .weighLimitExpiry _ => none
  | .rampTimeout _ => none
  | .sessionTimerExpiry _ => none
  | .clearExpiry _ => none
  | .bleedExpiry _ => none
  | .supplyTimeout _ => none
  | .identify _ tag body => some ⟨0x01, tag, body⟩
  | .status _ tag body => some ⟨0x02, tag, body⟩
  | .restart _ tag body => some ⟨0x03, tag, body⟩
  | .loadLadder _ tag body => some ⟨0x10, tag, body⟩
  | .loadParameters _ tag body => some ⟨0x11, tag, body⟩
  | .loadBaseline _ tag body => some ⟨0x12, tag, body⟩
  | .flushTable _ tag body => some ⟨0x13, tag, body⟩
  | .startSpin _ tag body => some ⟨0x18, tag, body⟩
  | .setTarget _ tag body => some ⟨0x19, tag, body⟩
  | .stop _ tag body => some ⟨0x1A, tag, body⟩
  | .queryEstimate _ tag body => some ⟨0x20, tag, body⟩
  | .setTrace _ tag body => some ⟨0x24, tag, body⟩
  | .readTrace _ tag body => some ⟨0x25, tag, body⟩
  | .serviceEnter _ tag body => some ⟨0x30, tag, body⟩
  | .serviceLeave _ tag body => some ⟨0x31, tag, body⟩
  | .examine _ tag body => some ⟨0x32, tag, body⟩
  | .depositSlot _ tag fields => some ⟨0x33, tag, 2 :: fields⟩
  | .depositChamber _ tag fields => some ⟨0x33, tag, 3 :: fields⟩
  | .manualFill _ tag body => some ⟨0x34, tag, body⟩
  | .stopFill _ tag body => some ⟨0x35, tag, body⟩
  | .forceBaseline _ tag body => some ⟨0x36, tag, body⟩
  | .unknownKind _ kind tag body => some ⟨kind, tag, body⟩

end Sys2Proof

namespace Sys2Proof.Machine

/-- R1: v is the quotient n / d rounded to the nearest integer, with halves away from zero. -/
abbrev IsRounded (v n : Int) (d : Nat) : Prop :=
  2 * (v * d - n).natAbs ≤ d ∧ (2 * (v * d - n).natAbs = d → n.natAbs < (v * d).natAbs)

/-- A request has been handled: its frame is in service and its reply in the slot (R167, R171). -/
def State.replied (s : State) (f : Frame) (r : Reply) : State :=
  s.setLink { s.link with inService := some f, replySlot := some r }

/-- A request has been accepted: its reply carries OK and these fields (R168, R171). -/
def State.okReply (s : State) (f : Frame) (fields : List Octet) : State :=
  s.replied f ⟨f.kind + 0x40, f.tag, .ok, fields⟩

/-- R90: the three rules of a ladder: speeds strictly increase; step 0 and the top step are DWELL; no four
consecutive steps are CROSSING. -/
abbrev ladderRules (l : List LadderStep) : Prop :=
  l.Pairwise (fun a b => a.speed < b.speed)
  ∧ (∃ a ∈ l.head?, a.kind = .dwell) ∧ (∃ a ∈ l.getLast?, a.kind = .dwell)
  ∧ ∀ i, i + 3 < l.length → ∃ a ∈ (l.drop i).take 4, a.kind = .dwell

/-- R118: the ramp timer's period in microseconds for a ramp to a speed from a current speed: the allowance
of ramp_allowance ms per 100 rpm, truncated, and 2000 ms. -/
def Spin.rampUs (p : Spin) (dst now : Nat) : Nat :=
  (p.par.rampAllowance * ((dst - now) + (now - dst)) / 100 + 2000) * 1000

/-- R138: what the end of a session does to a state whose session is closing: DEN deasserted, BRK released,
IDLE entered with its STATE report, the SESSION_END report given, the latest estimate absent. -/
def State.sessionEnded (s : State) : State :=
  giveReport
    (.sessionEnd ⟨s.spin.closing, s.spin.dwell, s.spin.ceiling, s.spin.attempts, s.spin.retreats⟩)
    (giveReport
      (.state ⟨.idle, s.spin.state, .stopped, s.spin.dwell, s.spin.dest, s.spin.dir, s.spin.target,
        s.spin.ceiling, 0⟩)
      { s with
        spin := { s.spin with
          state := .idle, den := false, brk := false, demand := 0, lastEnd := s.spin.closing,
          closing := none }
        est := ⟨[], 0, none, none⟩ })

/-- R134 to R136, R58: what closing a session does: the fills of a plan stop, the ramp, the window, the pre-fill
record, the session timer and a weighing in progress are dropped, the demand is 0, DEN and BRK are as
given, and the STATE report carries the closing cause. -/
def State.sessionClosed (s : State) (new : SpinState) (c : Cause) (den brk : Bool) : State :=
  let a := if s.spin.state = .balancing then s.endAll .stopped else s
  giveReport
    (.state ⟨new, s.spin.state, .closing c, s.spin.dwell, none, none, s.spin.target, s.spin.ceiling,
      0⟩)
    { a with
      spin := { s.spin with
        state := new, closing := some c, den := den, brk := brk, demand := 0, dest := none,
        dir := none, rampTimer := none, sessionTimer := none }
      est := { a.est with window := [], m := 0, preFill := none }
      weigh := if s.spin.state = .weighing then { Weigh.reset with result := s.weigh.result }
        else s.weigh
      samp := if s.spin.state = .weighing then { s.samp with
          conv := s.samp.conv.map (fun v => if v.dest = .pending then v else { v with dest := .nowhere }) }
        else s.samp }

/-- R138: a session that is closing ends at once when the stopped mark is set. -/
def State.endedIfStopped (s : State) : State := if s.rot.stopped = true then s.sessionEnded else s

/-- R118, R99, R33, R41, R135: what the start of a descent in RETREATING does. -/
def State.descending (s : State) (i : Nat) (reason : StateReason) : State :=
  let a := if s.spin.state = .balancing then s.endAll .stopped else s
  giveReport
    (.state ⟨.retreating, s.spin.state, reason, s.spin.dwell, some i, some .down, s.spin.target,
      s.spin.ceiling, s.spin.speedOf i⟩)
    { a with
      spin := { s.spin with
        state := .retreating, dest := some i, dir := some .down, demand := s.spin.speedOf i,
        rampCount := 0, rampTimer := some ⟨s.time, s.spin.rampUs (s.spin.speedOf i) s.rot.speed⟩,
        plans := 0 }
      est := { a.est with window := [], m := 0, preFill := none } }

/-- The spin states with a ramp in flight (R111). -/
abbrev SpinState.hasRamp (st : SpinState) : Bool := st == .ramping || st == .retreating

/-- The spin states that close a session (R111). -/
abbrev SpinState.isClosing (st : SpinState) : Bool := st == .winddown || st == .aborting

/-- The causes of WINDDOWN (R111). -/
def Cause.closesByWinddown : Cause → Bool
  | .stop | .duration | .redistribute | .unbalanced => true
  | .strike | .index | .sensor | .drive | .table => false

/-- The session record agrees with the spin state: DEN, BRK and demand (R112, R113), ramp fields, session
timer and closing cause (R111, R134, R136), the weighing (R47, R58), service mode (R187). -/
abbrev State.SessionOk (s : State) : Prop :=
  s.spin.den = (s.spin.state.active || s.spin.state == .winddown)
  ∧ s.spin.brk = (s.spin.state == .aborting)
  ∧ (s.spin.state.active = false → s.spin.demand = 0)
  ∧ s.spin.dest.isSome = s.spin.state.hasRamp
  ∧ s.spin.dir.isSome = s.spin.state.hasRamp
  ∧ s.spin.rampTimer.isSome = s.spin.state.hasRamp
  ∧ (s.spin.state = .retreating → s.spin.dir = some .down)
  ∧ s.spin.sessionTimer.isSome = s.spin.state.active
  ∧ s.spin.closing.isSome = s.spin.state.isClosing
  ∧ (s.spin.state = .winddown → s.spin.closing.any Cause.closesByWinddown)
  ∧ (s.spin.state = .aborting → s.spin.closing.any (fun c => !c.closesByWinddown))
  ∧ (s.weigh.phase ≠ .off ↔ s.spin.state = .weighing)
  ∧ s.weigh.limit.isSome = (s.weigh.phase != .off)
  ∧ (s.serv.mode = true → s.spin.state = .idle)

/-- What the estimator holds agrees with the spin state: a window only while measuring (R29, R33), a
pre-fill record only from a fill to the window after it (R39, R41), an estimate only in a session
(R37). -/
abbrev State.EstimatorOk (s : State) : Prop :=
  (s.est.window ≠ [] → s.spin.state = .measuring)
  ∧ (s.est.preFill.isSome →
      s.spin.state = .balancing ∨ s.spin.state = .settling ∨ s.spin.state = .measuring)
  ∧ (s.est.latest.isSome → s.spin.state ≠ .idle)

/-- The chambers an order waits for or is in flight for. -/
def ChamberCtl.held (t : ChamberCtl) : List (Fin 4) :=
  t.queue.map Order.chamber ++ (t.flight.map (fun f => f.order.chamber)).toList

/-- The orders held, queued or in flight. -/
def ChamberCtl.orders (t : ChamberCtl) : List Order :=
  t.queue ++ (t.flight.map Flight.order).toList

/-- The water supply: at most one order per chamber, none waits while the line is free, the supply timer
runs while an order is in flight, contents and amounts are in range (R140, R143, R145, R152). -/
abbrev ChamberCtl.Ok (t : ChamberCtl) : Prop :=
  t.held.Nodup
  ∧ (t.queue ≠ [] → t.flight.isSome)
  ∧ t.supplyTimer.isSome = t.flight.isSome
  ∧ (∀ c : Fin 4, t.content c ≤ capacity)
  ∧ (∀ o ∈ t.orders, 1 ≤ o.amount ∧ o.amount ≤ capacity)
  ∧ t.leak ≤ 255

/-- Planner orders are held in BALANCING only and service orders in service mode only (R135, R151,
R188). -/
abbrev State.OrdersOk (s : State) : Prop :=
  ∀ o ∈ s.cham.orders,
    (o.origin = .planner → s.spin.state = .balancing)
    ∧ (o.origin = .service → s.serv.mode = true)

/-- The receiver holds at most one frame in assembly, of the length its length octet gives (R164). -/
def RxState.Ok : RxState → Bool
  | .hunting => true
  | .length => true
  | .content n got => 2 ≤ n.toNat && n.toNat ≤ 66 && got.length < n.toNat
  | .check n got _ => 2 ≤ n.toNat && n.toNat ≤ 66 && got.length == n.toNat

/-- A transmitter that is free leaves nothing waiting for it (R172, R183). -/
abbrev State.SenderOk (s : State) : Prop :=
  s.link.tx = none →
    s.link.replySlot = none ∧ s.link.reports = [] ∧ (s.trace.push = true → s.trace.queue = [])

/-- The Link Port: a reply is in the slot exactly while a frame is in service, a frame waits only behind
one in service, the gap timer runs exactly while a frame is in assembly, the queue and the counts
are in range (R164 to R167, R171 to R174). -/
abbrev State.LinkOk (s : State) : Prop :=
  s.link.replySlot.isSome = s.link.inService.isSome
  ∧ (s.link.waiting.isSome → s.link.inService.isSome)
  ∧ (s.link.tx.any Sending.isReply → s.link.replySlot.isSome)
  ∧ s.link.rx.Ok = true
  ∧ s.link.gapTimer.isSome = (s.link.rx != .hunting)
  ∧ s.link.reports.length ≤ reportRoom
  ∧ s.link.dropped ≤ 255
  ∧ s.link.eventsDropped = (s.link.dropped != 0)
  ∧ s.link.discards.length ≤ 255 ∧ s.link.discards.line ≤ 255 ∧ s.link.discards.gap ≤ 255
  ∧ s.link.discards.crc ≤ 255 ∧ s.link.discards.full ≤ 255

/-- The revolution being built (R7, R8, R15): at most 47 slots, its first 32 pairs stored, an open pairing
window only before its slot 0. -/
abbrev Rotation.Ok (t : Rotation) : Prop :=
  t.sinceIndex ≤ 48
  ∧ (t.indexLost = true ↔ t.sinceIndex = 48)
  ∧ (∀ v ∈ t.rev, v.slots + (if t.pendingSlot.isSome then 1 else 0) ≤ t.sinceIndex
      ∧ t.sinceIndex ≤ 47 ∧ v.samples.length = min v.slots storedSlots)
  ∧ (t.window.isSome → t.pendingSlot = none ∧ t.rev.any (fun v => v.slots == 0))
  ∧ t.slotSpeed ≤ 4000 ∧ t.speed ≤ 4000
  ∧ t.stopped = t.standstill.isNone

/-- The basket stands: both speeds are 0, no slot edge is held and the open revolution has no slots
(R16). -/
abbrev Rotation.StoppedOk (t : Rotation) : Prop :=
  t.stopped = true → t.speed = 0 ∧ t.slotSpeed = 0 ∧ t.pendingSlot = none ∧ t.fallback = true
    ∧ t.rev.all (fun v => v.slots == 0)

/-- Queues and counts that no block lets grow beyond its bound (R20, R76, R181, R182). -/
abbrev State.BoundsOk (s : State) : Prop :=
  s.samp.invalidRun ≤ 255
  ∧ s.table.history.length ≤ 6
  ∧ s.trace.queue.length ≤ traceRoom
  ∧ s.trace.gap ≤ 255 ∧ s.trace.n ≤ 15 ∧ s.trace.m ≤ 15
  ∧ s.est.m ≤ 255

/-- The clear position (R78); nothing is behind it in QUIET. -/
def FlushState.pos : FlushState → Nat
  | .quiet => 0
  | .clearing pos _ _ => pos

/-- The background clear has left no mark behind its clear position (R78). -/
abbrev Table.ClearOk (t : Table) : Prop :=
  t.flush.pos < 12
  ∧ ∀ i : Fin 12, i.val < t.flush.pos → tget (t.marks t.active.other) i.val false = false

/-- A loaded ladder and a loaded set of parameters met their checks (R90, R91, R93, R94). -/
abbrev State.ProfileOk (s : State) : Prop :=
  (s.spin.ladder = [] ∨ (ladderConsistent s.spin.ladder = true ∧ 2 ≤ s.spin.ladder.length
    ∧ s.spin.ladder.length ≤ 12
    ∧ ∀ a ∈ s.spin.ladder, 50 ≤ a.speed ∧ a.speed ≤ 1200 ∧ 20 ≤ a.limit ∧ a.limit ≤ 1000))
  ∧ (∀ p ∈ s.spin.params, p.inRange = true ∧ p.consistent = true)
  ∧ (∀ p ∈ s.spin.params, s.spin.attempts ≤ p.maxAttempts)

/-- In a session the target, the ceiling and the dwell step are DWELL steps, the ramp destination does
not lie above the goal, and the demand is the speed of the step the basket holds or moves to (R97,
R98, R112). -/
abbrev Spin.CourseOk (p : Spin) : Prop :=
  p.state.active = true →
    p.ladder ≠ [] ∧ p.params.isSome
    ∧ p.par.weighHigh < p.speedOf 0 ∧ p.isDwell 0 = true
    ∧ p.target.any p.isDwell ∧ p.ceiling.any p.isDwell
    ∧ (∀ d ∈ p.dwell, p.isDwell d = true)
    ∧ (p.state = .weighing → p.dwell = none ∧ p.demand = p.par.weighHigh)
    ∧ (p.state.hasRamp → p.dest.any p.isDwell ∧ p.dest.getD 0 ≤ p.goal.getD 0
        ∧ p.demand = p.speedOf (p.dest.getD 0))
    ∧ (p.state = .ramping → p.dwell = none → p.dest = some 0)
    ∧ (p.state = .ramping → ∀ d ∈ p.dwell, d ≤ p.dest.getD 0)
    ∧ (p.state = .settling ∨ p.state = .measuring ∨ p.state = .balancing →
        p.dwell.isSome ∧ p.dwell.getD 0 ≤ p.goal.getD 0
        ∧ p.demand = p.speedOf (p.dwell.getD 0))
    ∧ (p.state = .retreating → p.dwell.isSome)

/-- Everything above. -/
abbrev State.Sound (s : State) : Prop :=
  s.SessionOk ∧ s.EstimatorOk ∧ s.cham.Ok ∧ s.OrdersOk ∧ s.SenderOk ∧ s.LinkOk ∧ s.rot.Ok
    ∧ s.rot.StoppedOk ∧ s.BoundsOk ∧ s.table.ClearOk ∧ s.ProfileOk ∧ s.spin.CourseOk

end Sys2Proof.Machine
end

