-- ==== Sys2Proof/Certificates/Slice0/Obligations.lean ====
section
/-! DEFINITION. The statements for the provers. Wherever a statement says `b`, that is the state after what has passed before
the command (R5; log 1): the time count has gone on and the levels of SVC and DFLT follow the pins. Every conclusion of the
form `exec c s = .next (… ).arbitrate` says the whole next state; what `arbitrate` does, TransmitterOrder says. -/

section Slice0Statements

open Sys2Proof Sys2Proof.Machine

/-! ## The step, and every command -/

/-- The command at the front of the queue runs with the queue's rest; on an empty queue one microsecond
passes (R5). The queue and the idle step are the model's choice (log 1, log 2). -/
def Obligations.StepRunsTheFrontCommand : Prop :=
  ∀ s : State,
    (∀ (c : Instr) (rest : List Instr), s.pending = c :: rest →
      step s = exec c (s.setPending rest))
    ∧ (s.pending = [] → step s = .next { s with time := s.time + 1 })

/-- Every command completes, leaves the queue alone, and, but for power-on reset, lets the time count go on
by the microseconds that passed (R5). The queue is the model's (log 1), and that a power-on reset leaves it as it
is, is the model's reading too (log 18). -/
def Obligations.EveryCommandCompletes : Prop :=
  ∀ (c : Instr) (s : State), ∃ t, exec c s = .next t ∧ t.pending = s.pending
    ∧ ((∀ w l, c ≠ .powerOnReset w l) → t.time = s.time + BitVec.ofNat 32 c.wait.us)
    ∧ (∀ w l, c = .powerOnReset w l → t.time = 0)

/-! ## Invariants -/

/-- The state after reset is sound. -/
def Obligations.ResetIsSound : Prop := State.reset.Sound

/-- R111 to R113, R134, R136, R58, R187: DEN, BRK, the demand, the ramp fields, the session timer, the
closing cause, the weighing and service mode agree with the spin state after every step. -/
def Obligations.StepKeepsSession : Prop :=
  ∀ s t : State, s.SessionOk → step s = .next t → t.SessionOk

/-- R29, R33, R37, R39, R41, R45: window, pre-fill record and latest estimate are held only in the spin
states that the rules give them. -/
def Obligations.StepKeepsEstimator : Prop :=
  ∀ s t : State, s.SessionOk → s.EstimatorOk → step s = .next t → t.EstimatorOk

/-- R140, R143, R145, R152: one order per chamber, none waits while the line is free, the supply timer runs
while an order is in flight, contents and amounts stay in range. R135, R151, R188: planner orders exist in
BALANCING only and service orders in service mode only. -/
def Obligations.StepKeepsSupply : Prop :=
  (∀ s t : State, s.cham.Ok → step s = .next t → t.cham.Ok)
  ∧ (∀ s t : State, s.SessionOk → s.cham.Ok → s.OrdersOk → step s = .next t → t.OrdersOk)

/-- R164 to R167, R171 to R174: a reply is in the slot exactly while a frame is in service, the waiting
frame waits behind one, the gap timer runs while a frame is in assembly, the queue and the counts are
bounded, and a free transmitter leaves nothing waiting. -/
def Obligations.StepKeepsLink : Prop :=
  ∀ s t : State, s.LinkOk → s.SenderOk → step s = .next t → t.LinkOk ∧ t.SenderOk

/-- R6 to R8, R10, R15, R16: at most 47 slots in the open revolution and 32 stored pairs, the index-lost
mark exactly at 48 slot edges, an open pairing window only before slot 0, speeds at most 4000 rpm, and
both speeds 0 while the stopped mark is set. -/
def Obligations.StepKeepsRotation : Prop :=
  ∀ s t : State, s.rot.Ok → s.rot.StoppedOk → step s = .next t → t.rot.Ok ∧ t.rot.StoppedOk

/-- R20, R29, R76, R181, R182: the run count, the measuring count, the hit history, the trace queue, its gap
count and settings keep their bounds. R78: the background clear leaves no mark set behind its clear position. -/
def Obligations.StepKeepsMarksAndCounts : Prop :=
  (∀ s t : State, s.BoundsOk → step s = .next t → t.BoundsOk)
  ∧ (∀ s t : State, s.table.ClearOk → step s = .next t → t.table.ClearOk)

/-- R90, R91, R93, R94, R99: a loaded ladder and loaded parameters keep having met their checks, and the attempt
count never exceeds max_attempts. R97, R98, R112: in a session target, ceiling and dwell step are DWELL steps,
no ramp destination lies above the goal, and the demand is weigh_high or the speed of the step held or
moved to. -/
def Obligations.StepKeepsProfileAndCourse : Prop :=
  (∀ s t : State, s.ProfileOk → step s = .next t → t.ProfileOk)
  ∧ (∀ s t : State, s.SessionOk → s.ProfileOk → s.spin.CourseOk → step s = .next t → t.spin.CourseOk)

/-- R112: the demand never exceeds the speed of the goal step in a session, and is 0 outside the active
states. -/
def Obligations.DemandWithinGoal : Prop :=
  ∀ s : State, s.SessionOk → s.ProfileOk → s.spin.CourseOk →
    (s.spin.state.active = true → ∃ g, s.spin.goal = some g ∧ s.spin.demand ≤ s.spin.speedOf g)
    ∧ (s.spin.state.active = false → s.spin.demand = 0)

/-! ## The Link Port -/

/-- R163, R164, R166, 11.1: from HUNTING the receiver takes the octets of any frame the line can carry and
completes exactly that frame at its last octet, whatever octets its body holds. R163, R164, R166: with other CRC
octets the same frame is discarded with reason CRC at its last octet. R162: on LTX each octet of the frame being sent is
a low start bit, its eight data bits, least significant first, and a high stop bit, and LTX is high after the last octet
and while nothing is sent; ten bits on LRX deliver the octet of their data bits when the stop bit is high, and none when
it is low. -/
def Obligations.ReceiverTakesEveryFrame : Prop :=
  (∀ f : Frame, f.body.length ≤ 64 →
    rxRun .hunting f.wire =
      (.hunting, List.replicate (f.body.length + 5) .quiet ++ [.frame f]))
  ∧ (∀ (f : Frame) (hi lo : Octet), f.body.length ≤ 64 → crcOctets f.checked ≠ [hi, lo] →
    rxRun .hunting (startOctet :: f.checked ++ [hi, lo]) =
      (.hunting, List.replicate (f.body.length + 5) .quiet ++ [.discard .crc]))
  ∧ (∀ (s : State) (f : Frame) (reply : Bool), s.link.tx = some ⟨f, reply⟩ →
    (∀ (k : Nat) (h : k < f.wire.length), s.ltx (10 * k) = false
      ∧ (∀ i, i < 8 → s.ltx (10 * k + 1 + i) = f.wire[k].getLsbD i) ∧ s.ltx (10 * k + 9) = true)
    ∧ ∀ n, 10 * f.wire.length ≤ n → s.ltx n = true)
  ∧ (∀ (s : State) (n : Nat), s.link.tx = none → s.ltx n = true)
  ∧ ∀ line : Nat → Bool,
    (∀ o : Octet, line 9 = true → (∀ i, i < 8 → line (1 + i) = o.getLsbD i) → lineOctet line = some o)
    ∧ (line 9 = false → lineOctet line = none)

/-- R164 to R166: OCTET_RECEIVED in each receiver state: the receiver's new state with its gap timer, the
discard it may bring, or the completed frame offered to the buffer. R162: it is what any ten bits on LRX do that deliver
the octet. -/
def Obligations.OctetMovesTheReceiver : Prop :=
  ∀ (w : Wait) (o : Octet) (s : State),
    let b := s.begin w
    let run : Option Timer := some ⟨b.time, 20000⟩
    let d := s.link.discards
    (s.link.rx = .hunting → o ≠ 0xC5 → exec (.octetReceived w o) s =
      .next (b.setLink { s.link with gapTimer := none }).arbitrate)
    ∧ (s.link.rx = .hunting → o = 0xC5 → exec (.octetReceived w o) s =
      .next (b.setLink { s.link with rx := .length, gapTimer := run }).arbitrate)
    ∧ (s.link.rx = .length → o = 0xC5 → exec (.octetReceived w o) s =
      .next (b.setLink { s.link with
        rx := .length, gapTimer := run,
        discards := { d with length := min 255 (d.length + 1) } }).arbitrate)
    ∧ (s.link.rx = .length → 2 ≤ o.toNat → o.toNat ≤ 66 → exec (.octetReceived w o) s =
      .next (b.setLink { s.link with rx := .content o [], gapTimer := run }).arbitrate)
    ∧ (s.link.rx = .length → o ≠ 0xC5 → (o.toNat < 2 ∨ 66 < o.toNat) →
      exec (.octetReceived w o) s =
        .next (b.setLink { s.link with
          rx := .hunting, gapTimer := none,
          discards := { d with length := min 255 (d.length + 1) } }).arbitrate)
    ∧ (∀ n got, s.link.rx = .content n got → got.length + 1 < n.toNat →
      exec (.octetReceived w o) s =
        .next (b.setLink { s.link with rx := .content n (got ++ [o]), gapTimer := run }).arbitrate)
    ∧ (∀ n got, s.link.rx = .content n got → got.length + 1 = n.toNat →
      exec (.octetReceived w o) s =
        .next (b.setLink
          { s.link with rx := .check n (got ++ [o]) none, gapTimer := run }).arbitrate)
    ∧ (∀ n got, s.link.rx = .check n got none → exec (.octetReceived w o) s =
      .next (b.setLink { s.link with rx := .check n got (some o), gapTimer := run }).arbitrate)
    ∧ (∀ n got hi, s.link.rx = .check n got (some hi) → crcOctets (n :: got) ≠ [hi, o] →
      exec (.octetReceived w o) s =
        .next (b.setLink { s.link with
          rx := .hunting, gapTimer := none,
          discards := { d with crc := min 255 (d.crc + 1) } }).arbitrate)
    ∧ (∀ n kind tag body hi, s.link.rx = .check n (kind :: tag :: body) (some hi) →
      crcOctets (n :: kind :: tag :: body) = [hi, o] →
      exec (.octetReceived w o) s =
        .next ((b.setLink { s.link with rx := .hunting, gapTimer := none }).offerFrame
          ⟨kind, tag, body⟩).arbitrate)
    ∧ ∀ line, lineOctet line = some o → exec (.octetReceived w o) s = .next (b.lineEvent line).arbitrate

/-- R164, R165: a line error, and the gap timer's expiry, discard the frame in assembly with their reason;
in HUNTING, and before the gap timer is due, nothing happens (log 3). R162: LINE_ERROR is what any ten bits on LRX
with a low stop bit do. -/
def Obligations.LineErrorAndGapDropTheFrame : Prop :=
  ∀ (w : Wait) (s : State),
    let b := s.begin w
    let d := s.link.discards
    (s.link.rx = .hunting → exec (.lineError w) s = .next b.arbitrate
      ∧ exec (.gapTimerExpiry w) s = .next b.arbitrate)
    ∧ (s.link.rx ≠ .hunting → exec (.lineError w) s =
      .next (b.setLink { s.link with
        rx := .hunting, gapTimer := none,
        discards := { d with line := min 255 (d.line + 1) } }).arbitrate)
    ∧ (s.link.rx ≠ .hunting → timerDue s.link.gapTimer b.time = true →
      exec (.gapTimerExpiry w) s =
        .next (b.setLink { s.link with
          rx := .hunting, gapTimer := none,
          discards := { d with gap := min 255 (d.gap + 1) } }).arbitrate)
    ∧ (timerDue s.link.gapTimer b.time = false →
      exec (.gapTimerExpiry w) s = .next b.arbitrate)
    ∧ ∀ line : Nat → Bool, line 9 = false → exec (.lineError w) s = .next (b.lineEvent line).arbitrate

/-- R167, R168, R171: every request frame is handled at once when the buffer is empty, with exactly one
reply, which carries its tag, in the slot: of a kind that names a request, what the checks and the request answer,
under its kind plus 40h; it waits behind a frame in service; with both places full it is discarded with reason FULL
and changes nothing else. -/
def Obligations.OfferedFrameIsHandledHeldOrDiscarded : Prop :=
  ∀ (c : Instr) (f : Frame) (s : State), c.frame = some f →
    let b := s.begin c.wait
    (s.link.inService = none → ∃ u r,
      (b.setLink { s.link with inService := some f }).answerFrame f = (u, r) ∧ r.tag = f.tag
      ∧ exec c s = .next (u.setLink { u.link with replySlot := some r }).arbitrate)
    ∧ (∀ k, s.link.inService = none → requestOf f.kind = some k →
      let a := (b.setLink { s.link with inService := some f }).answer k f.body
      exec c s = .next (a.state.setLink { a.state.link with
        replySlot := some ⟨f.kind + 0x40, f.tag, a.result, a.fields⟩ }).arbitrate)
    ∧ (s.link.inService.isSome = true → s.link.waiting = none →
      exec c s = .next (b.setLink { s.link with waiting := some f }).arbitrate)
    ∧ (s.link.inService.isSome = true → s.link.waiting.isSome = true →
      exec c s = .next (b.setLink { s.link with
        discards := { s.link.discards with full := min 255 (s.link.discards.full + 1) } }).arbitrate)

/-- R167, R172: FRAME_SENT frees the transmitter; the end of a reply empties the reply slot and ends the
service of its frame, and the waiting frame, if there is one, is then handled in the same event. That nothing
happens while no frame is being sent is the model's choice (log 23). -/
def Obligations.FrameSentEndsTheService : Prop :=
  ∀ (w : Wait) (s : State),
    let b := s.begin w
    (s.link.tx = none → exec (.frameSent w) s = .next b.arbitrate)
    ∧ (∀ f, s.link.tx = some ⟨f, false⟩ →
      exec (.frameSent w) s = .next (b.setLink { s.link with tx := none }).arbitrate)
    ∧ (∀ f, s.link.tx = some ⟨f, true⟩ → s.link.waiting = none → exec (.frameSent w) s =
      .next (b.setLink
        { s.link with tx := none, replySlot := none, inService := none }).arbitrate)
    ∧ (∀ f g, s.link.tx = some ⟨f, true⟩ → s.link.waiting = some g → exec (.frameSent w) s =
      .next ((b.setLink { s.link with
        tx := none, replySlot := none, inService := some g, waiting := none }).handle g).arbitrate)

/-- R172, R183: a frame being sent goes on; a free transmitter takes the reply, then the oldest report,
then, in PUSH delivery, the oldest trace record; a report or record leaves its queue when taken. -/
def Obligations.TransmitterOrder : Prop :=
  ∀ s : State,
    (s.link.tx.isSome = true → s.arbitrate = s)
    ∧ (s.link.tx = none →
      (∀ r, s.link.replySlot = some r →
        s.arbitrate = s.setLink { s.link with
          tx := some ⟨⟨r.kind, r.tag, r.result.code :: r.fields⟩, true⟩ })
      ∧ (∀ e rest, s.link.replySlot = none → s.link.reports = e :: rest →
        s.arbitrate = s.setLink { s.link with tx := some ⟨e.frame, false⟩, reports := rest })
      ∧ (∀ q rest, s.link.replySlot = none → s.link.reports = [] → s.trace.push = true →
        s.trace.queue = q :: rest →
        s.arbitrate = (s.setLink { s.link with tx := some ⟨⟨0x90, 0, q.octets⟩, false⟩ }).setTrace
          { s.trace with queue := rest })
      ∧ (s.link.replySlot = none → s.link.reports = [] →
        (s.trace.push = false ∨ s.trace.queue = []) → s.arbitrate = s))

/-- R173, R174: a report joins the queue as its newest entry while fewer than 8 are held; otherwise it is dropped, the
events-dropped mark is set and the dropped count goes up, saturating at 255. R173, 11.6: the frame of each of the ten
reports, with its kind, tag 0 and the octets of its body in their order (R107: the margin of a DECISION report
saturates at 32,767). R196, 11.3: the fields of one, two and four octets, signed ones and pairs, the flag octets, the
octets of what may be absent, and the values that stand for names. -/
def Obligations.ReportsJoinOrAreDropped : Prop :=
  (∀ (r : Report) (s : State),
    (s.link.reports.length < 8 →
      giveReport r s = s.setLink { s.link with reports := s.link.reports ++ [r] })
    ∧ (8 ≤ s.link.reports.length →
      giveReport r s = s.setLink { s.link with
        eventsDropped := true, dropped := min 255 (s.link.dropped + 1) }))
  ∧ (∀ r : StateReport, (Report.state r).frame = ⟨0x80, 0,
      [u8 r.new.code, u8 r.prev.code, r.reason.code, stepOctet r.dwell, stepOctet r.dest, dirOctet r.dir,
        stepOctet r.target, stepOctet r.ceiling] ++ u16 r.demand⟩)
  ∧ (∀ r : WeighedReport,
    let mean (x : Option MeanCount) := u16 ((x.map MeanCount.mean).getD 0)
      ++ u16 ((x.map MeanCount.count).getD 0)
    (Report.weighed r).frame = ⟨0x81, 0, [u8 r.cls.val, weighFailOctet r.fail,
        flagOctet [r.inertiaJ.isSome, r.acc.isSome, r.hold.isSome, r.dt.isSome, r.w1.isSome, r.w2.isSome]]
      ++ u32 ((r.inertiaJ.map Prod.fst).getD 0) ++ u32 ((r.inertiaJ.map Prod.snd).getD 0)
      ++ mean r.acc ++ mean r.hold ++ u16 (r.dt.getD 0) ++ u16 (r.w1.getD 0) ++ u16 (r.w2.getD 0)⟩)
  ∧ (∀ r : DecisionReport, (Report.decision r).frame = ⟨0x82, 0,
      [u8 r.step, u8 r.goal, u8 r.ceiling, if r.next.isSome then 0 else 1, stepOctet r.next, r.outcome.code,
        u8 r.test, if r.steady then 0 else 1]
      ++ pair16 r.avg ++ u16 r.magA ++ u16 r.limit ++ pair16 r.u ++ u16 r.size
      ++ i16 (max (-32768) (min 32767 ((r.worst.map Prod.snd).getD 0)))
      ++ [stepOctet (r.worst.map Prod.fst), u8 r.attempts, u8 r.retreats, u8 r.plans, u8 r.orders]⟩)
  ∧ (∀ r : CeilingReport, (Report.ceiling r).frame = ⟨0x83, 0,
      [u8 r.new, stepOctet r.prev, r.cause.code, stepOctet r.dwell, stepOctet r.target]⟩)
  ∧ (∀ r : RedistributionReport, (Report.redistribution r).frame = ⟨0x84, 0,
      [u8 r.attempts, u8 r.maxAttempts, u8 r.step, u8 r.test] ++ u16 r.size ++ u16 r.magA⟩)
  ∧ (∀ r : FillEndReport, (Report.fillEnd r).frame = ⟨0x85, 0,
      [u8 r.order.chamber.val, r.order.origin.code] ++ u16 r.order.amount ++ u16 r.pulses
      ++ u16 r.delivered ++ [r.reason.code] ++ u16 r.content ++ [u8 r.dropped.length]
      ++ r.dropped.flatMap (fun o => u8 o.chamber.val :: u16 o.amount)⟩)
  ∧ (∀ r : LearnedReport,
    let o := r.outcome
    (Report.learned r).frame = ⟨0x86, 0, [u8 o.step, u8 r.cls.val, o.result.code,
        flagOctet [o.kMeas.isSome, o.kNew.isSome]]
      ++ pair16 o.kOld ++ pair16 (o.kMeas.getD ⟨0, 0⟩) ++ pair16 (o.kNew.getD ⟨0, 0⟩) ++ pair16 o.du
      ++ pair16 o.d⟩)
  ∧ (∀ r : TableErrorReport, (Report.tableError r).frame = ⟨0x87, 0,
      [u8 r.step, u8 r.cls.val, u8 r.response, if r.baselineK.isSome then 0 else 1] ++ pair16 r.slotK
      ++ pair16 (r.baselineK.getD ⟨0, 0⟩)⟩)
  ∧ (∀ r : FaultReport, (Report.fault r).frame = ⟨0x88, 0, match r with
      | .strike n x y m => [0] ++ u32 n.toNat ++ i16 x ++ i16 y ++ u16 m
      | .sensor n run => [1] ++ u32 n.toNat ++ [u8 run]
      | .index n => [2] ++ u32 n.toNat
      | .supply c ordered delivered => [3, u8 c.val] ++ u16 ordered ++ u16 delivered
      | .leak n => [4, u8 n]⟩)
  ∧ (∀ r : SessionEndReport, (Report.sessionEnd r).frame = ⟨0x89, 0,
      [causeOctet r.cause, stepOctet r.dwell, stepOctet r.ceiling, u8 r.attempts, u8 r.retreats]⟩)
  ∧ (∀ n : Nat, (u8 n).toNat = n % 256 ∧ u16 n = [u8 (n / 256), u8 n]
    ∧ u32 n = [u8 (n / 256 ^ 3), u8 (n / 256 ^ 2), u8 (n / 256), u8 n])
  ∧ (∀ v : Int, i16 v = u16 (v % 65536).toNat)
  ∧ (∀ p : Pair, pair16 p = i16 p.re ++ i16 p.im)
  ∧ (∀ (bits : List Bool) (i : Nat), i < 8 → (flagOctet bits).getLsbD i = bits.getD i false)
  ∧ (stepOctet none = 0xFF ∧ ∀ i, stepOctet (some i) = u8 i)
  ∧ ([SpinState.weighing, .ramping, .settling, .measuring, .balancing, .retreating, .winddown, .aborting,
      .idle].map SpinState.code = List.range 9)
  ∧ ([none, some Cause.stop, some .duration, some .redistribute, some .unbalanced, some .strike,
      some .index, some .sensor, some .drive, some .table].map causeOctet
    = [0xFF, 0, 1, 2, 3, 4, 5, 6, 7, 8])
  ∧ ([StateReason.start, .weighed, .advance, .arrived, .filled, .watch, .settled, .balance, .retreat, .cap,
      .shortfall, .target, .stopped].map StateReason.code = [0, 1, 2, 3, 4, 5, 6, 7, 8, 9, 10, 11, 12])
  ∧ (∀ c : Cause, (StateReason.closing c).code = 0x10 + causeOctet (some c))
  ∧ ([none, some Dir.up, some .down].map dirOctet = [0xFF, 0, 1])
  ∧ ([DecisionCode.advance, .balance, .retreat, .redistribute, .cap, .hold, .unbalanced].map
      DecisionCode.code = [0, 1, 2, 3, 4, 5, 6])
  ∧ ([CeilingCause.cap, .retreats, .shortfall].map CeilingCause.code = [0, 1, 2])
  ∧ ([none, some WeighFail.saturated, some .torque, some .time, some .speed, some .limit].map
      weighFailOctet = [0, 1, 2, 3, 4, 5])
  ∧ ([LearnResult.accepted, .displacement, .delivery, .ratio, .magnitude].map LearnResult.code
    = [0, 1, 2, 3, 4])
  ∧ ([Origin.planner, .service].map Origin.code = [0, 1])
  ∧ ([EndReason.complete, .capacity, .replaced, .stopped, .speed, .supply].map EndReason.code
    = [0, 1, 2, 3, 4, 5])
  ∧ ([WeighPhase.off, .below, .accelerating, .steadying, .holding].map WeighPhase.code = [0, 1, 2, 3, 4])
  ∧ ([ResultCode.ok, .malformed, .mode, .range, .combination, .state, .noProfile, .notReady,
      .supplyFault].map ResultCode.code = [0, 1, 2, 3, 4, 5, 6, 7, 8])

/-- R170, R156: a refused request changes no state and its reply holds the result code alone, but for
NO_PROFILE, which carries the three marks of R96 (without a ladder the third is the model's choice, log 35), and
SUPPLY_FAULT, which carries the pending fault and clears it. -/
def Obligations.RefusalsChangeNothing : Prop :=
  ∀ (s : State) (k : RequestKind) (body : List Octet),
    let a := s.answer k body
    a.result ≠ .ok →
      (a.result ≠ .supplyFault → a.state = s
        ∧ a.fields = if a.result = .noProfile then [s.profileMarks] else [])
      ∧ (a.result = .supplyFault → ∃ f, s.cham.pendingFault = some f
        ∧ a.state = s.setCham { s.cham with pendingFault := none } ∧ a.fields = f.octets)

/-- R169: the checks in their order. A wrong body length (11.4 gives each kind its own, Load Ladder by its step count)
is refused with MALFORMED before anything else; then the mode decides (R187): NORMAL in service mode, SERVICE out of
it, and Service Enter with SVC low are refused with MODE; then the range checks of Set Trace, Read Trace and Set Target
(R185, R184, R97) and, in service mode, of Force Baseline, Stop Fill, Examine, Manual Fill and Deposit (R195, R194,
R189, R193, R191), with RANGE; then a Set Target naming a step that is not a DWELL step of the ladder with COMBINATION,
a STANDBY Deposit during a clear with STATE, and a Manual Fill without parameters with NOT_READY (R151). A Deposit's
target octets are read as 2 and 3 (log 6). -/
def Obligations.LengthThenMode : Prop :=
  (∀ (s : State) (k : RequestKind) (body : List Octet),
    let right : Prop := match k with
      | .identify | .restart | .flushTable | .stop | .queryEstimate | .serviceEnter | .serviceLeave =>
        body.length = 0
      | .status | .setTarget | .readTrace | .stopFill | .forceBaseline => body.length = 1
      | .setTrace | .examine | .manualFill => body.length = 3
      | .startSpin => body.length = 4
      | .deposit => body.length = 11
      | .loadBaseline => body.length = 17
      | .loadParameters => body.length = 35
      | .loadLadder => ∃ n rest, body = n :: rest ∧ rest.length = 5 * n.toNat
    let normal := k = .loadLadder ∨ k = .loadParameters ∨ k = .startSpin ∨ k = .setTarget ∨ k = .stop
      ∨ k = .serviceEnter
    let service := k = .serviceLeave ∨ k = .examine ∨ k = .deposit ∨ k = .manualFill ∨ k = .stopFill
      ∨ k = .forceBaseline
    (¬ right → s.answer k body = ⟨s, .malformed, []⟩)
    ∧ (right → (s.answer k body).result ≠ .malformed)
    ∧ (right → normal → s.serv.mode = true → s.answer k body = ⟨s, .mode, []⟩)
    ∧ (right → service → s.serv.mode = false → s.answer k body = ⟨s, .mode, []⟩)
    ∧ (right → ¬ normal → ¬ service → (s.answer k body).result ≠ .mode)
    ∧ (right → normal → k ≠ .serviceEnter → s.serv.mode = false → (s.answer k body).result ≠ .mode)
    ∧ (right → service → s.serv.mode = true → (s.answer k body).result ≠ .mode)
    ∧ (k = .serviceEnter → body = [] → s.pins.svc = false → s.answer k body = ⟨s, .mode, []⟩))
  ∧ (∀ (s : State) (x y z : Octet),
    (3 < x.toNat ∨ 15 < y.toNat ∨ 15 < z.toNat → s.answer .setTrace [x, y, z] = ⟨s, .range, []⟩)
    ∧ (x.toNat = 0 ∨ 4 < x.toNat → s.answer .readTrace [x] = ⟨s, .range, []⟩)
    ∧ (s.serv.mode = false → 11 < x.toNat → s.answer .setTarget [x] = ⟨s, .range, []⟩)
    ∧ (s.serv.mode = false → x.toNat ≤ 11 → s.spin.ladder ≠ [] → s.spin.isDwell x.toNat = false →
      s.answer .setTarget [x] = ⟨s, .combination, []⟩))
  ∧ (∀ (s : State) (x y z : Octet), s.serv.mode = true →
    let items := if x.toNat = 0 then s.spin.ladder.length else if x.toNat = 1 then 48
      else if x.toNat = 2 then 12 else if x.toNat = 3 then 4
      else if s.spin.params.isSome then 24 else 0
    let grams := y.toNat * 256 + z.toNat
    (3 < x.toNat → s.answer .forceBaseline [x] = ⟨s, .range, []⟩)
    ∧ (4 < x.toNat → s.answer .stopFill [x] = ⟨s, .range, []⟩)
    ∧ (4 < x.toNat ∨ items ≤ y.toNat ∨ z.toNat = 0 ∨ 8 < z.toNat →
      s.answer .examine [x, y, z] = ⟨s, .range, []⟩)
    ∧ (3 < x.toNat ∨ grams = 0 ∨ 400 < grams → s.answer .manualFill [x, y, z] = ⟨s, .range, []⟩)
    ∧ (x.toNat ≤ 3 → 1 ≤ grams → grams ≤ 400 → s.spin.params = none →
      s.answer .manualFill [x, y, z] = ⟨s, .notReady, []⟩))
  ∧ ∀ (s : State) (t i g re' re im' im v f n' n : Octet), s.serv.mode = true →
    let body := [t, i, g, re', re, im', im, v, f, n', n]
    let small := mag ⟨(re' ++ re).toInt, (im' ++ im).toInt⟩ < 16
    let slotRange := 11 < i.toNat ∨ 3 < g.toNat ∨ 2 < v.toNat ∨ 1 < f.toNat ∨ n' ≠ 0 ∨ n ≠ 0
      ∨ (v ≠ 0 ∧ small)
    (t ≠ 2 → t ≠ 3 → s.answer .deposit body = ⟨s, .range, []⟩)
    ∧ (t = 2 → slotRange → s.answer .deposit body = ⟨s, .range, []⟩)
    ∧ (t = 2 → ¬ slotRange → v = 2 → s.table.flush ≠ .quiet →
      s.answer .deposit body = ⟨s, .state, []⟩)
    ∧ (t = 3 → (3 < i.toNat ∨ g ≠ 0 ∨ re' ≠ 0 ∨ re ≠ 0 ∨ im' ≠ 0 ∨ im ≠ 0 ∨ v ≠ 0 ∨ f ≠ 0) →
      s.answer .deposit body = ⟨s, .range, []⟩)

/-! ## Requests: reading, trace, service -/

/-- R170, R175, R38: Identify, Query Estimate and a kind that names no request change nothing but the reply: the
part's figures, the latest estimate field by field or NOT_READY, and a reply of kind 7Fh with MALFORMED and the
kind received. R174, R176: an accepted Status answers the common part and its page as they stood, and clears the
events-dropped mark and the dropped count; a page above 3 is refused with RANGE and clears nothing. R26, R60, R89,
R110, R139, R161, R166, R186, R195 and 11.5 give the octets of each page, in their order. With no order in flight and
no pending fault page 2 sends what log 15 says. -/
def Obligations.ReadingRequests : Prop :=
  (∀ (w : Wait) (tag : Octet) (s : State), s.link.inService = none →
    let b := s.begin w
    exec (.identify w tag []) s = .next (b.okReply ⟨0x01, tag, []⟩
      [0x2A, 0x01, 0x9A, 1, boolOctet s.link.fast, boolOctet b.pins.svc, 12, 8, 8, 32,
        64]).arbitrate
    ∧ (∀ e, s.est.latest = some e → exec (.queryEstimate w tag []) s =
      .next (b.okReply ⟨0x20, tag, []⟩
        (u8 e.step :: u32 e.newest.toNat ++ [u8 e.windowSize, boolOctet (!e.steady)]
          ++ u16 e.spread ++ pair16 e.avg ++ pair16 e.k ++ pair16 e.u ++ u16 e.size
          ++ [e.learned.code, u8 e.predictions.length]
          ++ e.predictions.flatMap (fun q => u8 q.step :: u16 q.p))).arbitrate)
    ∧ (s.est.latest = none → exec (.queryEstimate w tag []) s =
      .next (b.replied ⟨0x20, tag, []⟩ ⟨0x60, tag, .notReady, []⟩).arbitrate)
    ∧ (∀ kind body, requestKinds.contains kind = false → exec (.unknownKind w kind tag body) s =
      .next (b.replied ⟨kind, tag, body⟩ ⟨0x7F, tag, .malformed, [kind]⟩).arbitrate))
  ∧ (∀ (w : Wait) (tag p : Octet) (s : State), s.link.inService = none →
    let b := s.begin w
    let answers (page : List Octet) : Prop := exec (.status w tag [p]) s =
      .next ((b.setLink { s.link with eventsDropped := false, dropped := 0 }).okReply
        ⟨0x02, tag, [p]⟩
        ([u8 s.spin.state.code, flagOctet [s.serv.mode, s.link.eventsDropped], u8 s.link.dropped,
            u8 s.link.reports.length, p] ++ page)).arbitrate
    let complete := s.spin.ladder ≠ [] ∧ s.spin.params.isSome
      ∧ ∀ i, i < s.spin.ladder.length → tget s.table.loaded i false = true
    let goal := match s.spin.target, s.spin.ceiling with
      | some x, some y => some (min x y)
      | _, _ => none
    let seconds := s.spin.sessionTimer.map (fun t => (t.us - (b.time - t.start).toNat) / 1000000)
    let inertia := match s.weigh.result with
      | .weighed _ load => some load
      | _ => none
    let fail := match s.weigh.result with
      | .failed why => some why
      | _ => none
    let cls : Octet := match s.weigh.result with
      | .unweighed => 0xFF
      | .weighed c _ => u8 c.val
      | .failed _ => 3
    let chamber (c : Fin 4) : List Octet := u16 s.cham.chambers[c].content
      ++ [if s.cham.flight.any (fun f => f.order.chamber = c) then 3
          else if s.cham.chambers[c].content = 0 then 0
          else if s.spin.params.all (fun v => s.rot.speed < v.holdSpeed) ∨ s.rot.stopped = true then 2
          else 1,
        endOctet s.cham.chambers[c].lastEnd]
    let q := s.trace
    let held := q.queue.length
    (p.toNat = 0 → answers (u16 s.rot.speed
      ++ [flagOctet [s.rot.stopped, s.rot.indexLost, s.spin.ladder ≠ [], s.spin.params.isSome, complete,
            s.spin.den, s.spin.brk, b.pins.dflt],
          flagOctet [s.serv.forceLow, s.serv.forceHigh, b.pins.svc],
          flagOctet [inertia.isSome, seconds.isSome]]
      ++ u32 s.rot.counter.toNat ++ [u8 s.samp.invalidRun, s.weigh.phase.code, cls, weighFailOctet fail]
      ++ u32 (inertia.getD 0)
      ++ [u8 s.spin.ladder.length, stepOctet s.spin.target, stepOctet s.spin.ceiling, stepOctet goal,
          stepOctet s.spin.dwell, stepOctet s.spin.dest, dirOctet s.spin.dir, u8 s.spin.rampCount,
          u8 s.spin.settle]
      ++ u16 (seconds.getD 0) ++ [causeOctet s.spin.closing, causeOctet s.spin.lastEnd]
      ++ u16 s.spin.demand ++ [u8 s.spin.attempts, u8 s.spin.retreats, u8 s.spin.plans]))
    ∧ (p.toNat = 1 → answers (
      [if s.table.active = .a then 0 else 1, s.table.flush.code,
        match s.table.flush with
        | .quiet => 0xFF
        | .clearing pos _ _ => u8 pos]
      ++ u16 ((List.range 12).map (fun i => if tget s.table.loaded i false then 2 ^ i else 0)).sum
      ++ [u8 s.table.history.length]
      ++ s.table.history.map (fun e => u8 (e.step * 16 +
          match e.outcome with
          | .hit => 0
          | .miss => 1
          | .error => 2))))
    ∧ (p.toNat = 2 → answers (chamber 0 ++ chamber 1 ++ chamber 2 ++ chamber 3
      ++ [flagOctet [s.cham.flight.isSome, s.cham.pendingFault.isSome], boolOctet s.cham.balancer,
          u8 s.cham.leak]
      ++ (match s.cham.flight with
          | some f => [u8 f.order.chamber.val, if f.order.origin = .planner then 0 else 1]
            ++ u16 f.order.amount ++ u16 f.pulses ++ u16 f.delivered
          | none => [0xFF, 0, 0, 0, 0, 0, 0, 0])
      ++ [u8 s.cham.queue.length]
      ++ s.cham.queue.flatMap (fun o =>
          [u8 o.chamber.val, if o.origin = .planner then 0 else 1] ++ u16 o.amount)
      ++ (match s.cham.pendingFault with
          | some (.supply c ordered delivered) =>
            [3, u8 c.val] ++ u16 ordered ++ u16 delivered ++ [0]
          | some (.leak n) => [4, 0xFF, 0, 0, 0, 0, u8 n]
          | none => [0, 0xFF, 0, 0, 0, 0, 0])))
    ∧ (p.toNat = 3 → answers
      [u8 held, flagOctet [q.enable, q.push], u8 q.n, u8 q.m,
        flagOctet [held ≤ q.n, 32 - q.m ≤ held, 16 < held], u8 q.gap, boolOctet s.link.fast,
        u8 s.link.discards.length, u8 s.link.discards.line, u8 s.link.discards.gap,
        u8 s.link.discards.crc, u8 s.link.discards.full, boolOctet s.link.waiting.isSome])
    ∧ (3 < p.toNat → exec (.status w tag [p]) s =
      .next (b.replied ⟨0x02, tag, [p]⟩ ⟨0x42, tag, .range, []⟩).arbitrate))

/-- R182, R184, R185: Set Trace replaces the four settings and keeps the records; Read Trace in POLL
delivery takes the oldest records out, up to its count, and is refused with STATE in PUSH. -/
def Obligations.TraceRequests : Prop :=
  ∀ (w : Wait) (tag : Octet) (s : State), s.link.inService = none →
    let b := s.begin w
    let held := s.trace.queue.length
    (∀ fl n m : Octet, fl.toNat ≤ 3 → n.toNat ≤ 15 → m.toNat ≤ 15 →
      exec (.setTrace w tag [fl, n, m]) s =
        .next ((b.setTrace { s.trace with
            enable := fl.getLsbD 0, push := fl.getLsbD 1, n := n.toNat, m := m.toNat }).okReply
          ⟨0x24, tag, [fl, n, m]⟩
          [fl, n, m, u8 held,
            flagOctet [held ≤ n.toNat, 32 - m.toNat ≤ held, 16 < held]]).arbitrate)
    ∧ (∀ n : Octet, 1 ≤ n.toNat → n.toNat ≤ 4 → s.trace.push = false →
      exec (.readTrace w tag [n]) s =
        .next ((b.setTrace { s.trace with queue := s.trace.queue.drop n.toNat }).okReply
          ⟨0x25, tag, [n]⟩
          ([u8 (min n.toNat held), u8 (held - n.toNat),
              flagOctet [held - n.toNat ≤ s.trace.n, 32 - s.trace.m ≤ held - n.toNat,
                16 < held - n.toNat]]
            ++ (s.trace.queue.take n.toNat).flatMap TraceRecord.octets)).arbitrate)
    ∧ (∀ n : Octet, 1 ≤ n.toNat → n.toNat ≤ 4 → s.trace.push = true →
      exec (.readTrace w tag [n]) s =
        .next (b.replied ⟨0x25, tag, [n]⟩ ⟨0x65, tag, .state, []⟩).arbitrate)

/-- R187, R189, R190, R195: Service Enter sets the service-mode mark, Force Baseline both force marks, and Examine
answers the items from its start index up to its count, changing nothing. Outside IDLE Service Enter is refused with
STATE. The items of each target are those of R190
in the octets of 11.5, in increasing order of index. -/
def Obligations.ServiceRequests : Prop :=
  ∀ (w : Wait) (tag : Octet) (s : State), s.link.inService = none →
    let b := s.begin w
    (s.spin.state = .idle → s.serv.mode = false → b.pins.svc = true →
      exec (.serviceEnter w tag []) s =
        .next ((b.setServ { s.serv with mode := true }).okReply ⟨0x30, tag, []⟩
          [1, flagOctet [s.serv.forceLow, s.serv.forceHigh]]).arbitrate)
    ∧ (s.spin.state ≠ .idle → s.serv.mode = false → b.pins.svc = true →
      exec (.serviceEnter w tag []) s =
        .next (b.replied ⟨0x30, tag, []⟩ ⟨0x70, tag, .state, []⟩).arbitrate)
    ∧ (∀ fl : Octet, s.serv.mode = true → fl.toNat ≤ 3 →
      exec (.forceBaseline w tag [fl]) s =
        .next ((b.setServ ⟨true, fl.getLsbD 0, fl.getLsbD 1⟩).okReply ⟨0x36, tag, [fl]⟩
          [fl]).arbitrate)
    ∧ (∀ t i n : Octet, s.serv.mode = true → 1 ≤ n.toNat → n.toNat ≤ 8 → t.toNat ≤ 4 →
      let chamber (c : Fin 4) : List Octet :=
        u16 s.cham.chambers[c].content
        ++ [if s.cham.flight.any (fun f => f.order.chamber = c) then 3
            else if s.cham.chambers[c].content = 0 then 0
            else if s.spin.params.all (fun v => s.rot.speed < v.holdSpeed) ∨ s.rot.stopped = true then 2
            else 1,
          endOctet s.cham.chambers[c].lastEnd]
        ++ (match s.cham.flight.filter (fun f => f.order.chamber = c),
              s.cham.queue.find? (fun o => o.chamber = c) with
            | some f, _ => [2, if f.order.origin = .planner then 0 else 1] ++ u16 f.order.amount
              ++ u16 f.pulses ++ u16 f.delivered
            | none, some o =>
              [1, if o.origin = .planner then 0 else 1] ++ u16 o.amount ++ [0, 0, 0, 0]
            | none, none => [0, 0, 0, 0, 0, 0, 0, 0])
      let items : List (List Octet) :=
        match t.toNat with
        | 0 => s.spin.ladder.map (fun a =>
            u16 a.speed ++ [if a.kind = .dwell then 0 else 1] ++ u16 a.limit)
        | 1 => (List.finRange 12).flatMap (fun x => (List.finRange 4).map (fun c =>
            [u8 x.val, u8 c.val] ++ pair16 s.table.baseline[x][c] ++ [boolOctet s.table.loaded[x]]))
        | 2 => (List.finRange 12).map (fun x =>
            let a := s.table.slots[x]
            [u8 x.val, u8 a.tag.val] ++ pair16 a.k
              ++ [flagOctet [s.table.marksA[x], s.table.marksB[x], s.table.active = .b,
                    a.check = Config.checkValue a.tag a.k]])
        | 3 => (List.finRange 4).map chamber
        | _ => match s.spin.params with
          | some v => v.values.zipIdx.map (fun e => u8 e.2 :: u16 e.1)
          | none => []
      i.toNat < items.length →
      exec (.examine w tag [t, i, n]) s =
        .next (b.okReply ⟨0x32, tag, [t, i, n]⟩
          ([t, i, u8 (min n.toNat (items.length - i.toNat))]
            ++ ((items.drop i.toNat).take n.toNat).flatten)).arbitrate)

/-- R188: Service Leave and, in service mode, a falling edge on SVC clear the service-mode mark and end every
order STOPPED; the force-baseline marks stay. A falling edge outside service mode changes the level alone. R147
to R149, R153: when every order ends at once, the order in flight ends for the given reason with its delivered
amount, the queued orders are dropped and listed in the one FILL_END report, the valves close, the leak count is
0, and the ends of planner orders are handed to the estimator (R40): COMPLETE, CAPACITY and SUPPLY add what was
delivered to the chamber's entry, SPEED and STOPPED discard the record; with no order in flight nothing changes. -/
def Obligations.LeavingServiceMode : Prop :=
  (∀ (w : Wait) (tag : Octet) (s : State),
    let b := s.begin w
    let off := { s.serv with mode := false }
    (s.link.inService = none → s.serv.mode = true → exec (.serviceLeave w tag []) s =
      .next (((b.setServ off).endAll .stopped).okReply ⟨0x31, tag, []⟩
        [u8 ((if s.cham.flight.isSome then 1 else 0) + s.cham.queue.length)]).arbitrate)
    ∧ (s.serv.mode = true → exec (.svcFalling w) s =
      .next (((b.setPins { b.pins with svc := false }).setServ off).endAll .stopped).arbitrate)
    ∧ (s.serv.mode = false → exec (.svcFalling w) s =
      .next (b.setPins { b.pins with svc := false }).arbitrate))
  ∧ (∀ (s : State) (r : EndReason),
    (s.cham.flight = none → s.endAll r = s)
    ∧ (∀ f, s.cham.flight = some f →
      let marked := (s.cham.setLastEnd f.order.chamber r).setLastEnds r s.cham.queue
      let ended := giveReport
        (.fillEnd ⟨f.order, f.pulses, f.delivered, r, s.cham.content f.order.chamber,
          s.cham.queue⟩)
        (s.setCham { marked with flight := none, supplyTimer := none, queue := [], leak := 0 })
      s.endAll r = (ended.handEnd f.order f.delivered r).handDropped r s.cham.queue))
  ∧ (∀ (s : State) (o : Order) (g : Nat) (r : EndReason),
    let c := o.chamber
    (o.origin = .service → s.handEnd o g r = s)
    ∧ (o.origin = .planner → (r = .complete ∨ r = .capacity ∨ r = .supply) → s.handEnd o g r =
      s.setEst { s.est with preFill := s.est.preFill.map (fun q =>
        { q with delivered := q.delivered.set c (q.delivered[c] + g) }) })
    ∧ (o.origin = .planner → (r = .speed ∨ r = .stopped) →
      s.handEnd o g r = s.setEst { s.est with preFill := none }))
  ∧ ∀ (s : State) (r : EndReason), s.handDropped r [] = s
    ∧ ∀ o rest, s.handDropped r (o :: rest) = (s.handEnd o 0 r).handDropped r rest

/-! ## Requests: profile, table, Restart -/

/-- R90 to R92, R169: a Load Ladder is refused with RANGE when its step count, a speed, a kind or a limit is out of
range, then with COMBINATION when its ladder breaks a rule of R90, then with STATE outside IDLE. Accepted, it replaces
the ladder, drops the baseline, flushes the table and makes target, ceiling and dwell step absent. R93 to R95: a Load
Parameters with a value outside the ranges of R93 is refused with RANGE, then with COMBINATION for weigh_high below
weigh_low + 20 or thresholds that do not strictly increase, then with STATE outside IDLE; accepted, it replaces the
whole set and lowers the attempt count to the new max_attempts. R65, R66: Load Baseline, in every spin state and mode:
four coefficients of magnitude 16 or more for a step of the ladder replace the step's entries, set its loaded mark and
clear its slot's mark in both sets, and touch nothing else; a smaller coefficient or a step above 11 is refused with
RANGE, a step beyond the ladder with COMBINATION. -/
def Obligations.LoadRequests : Prop :=
  (∀ (w : Wait) (tag : Octet) (body : List Octet) (s : State),
    s.link.inService = none → s.serv.mode = false →
    let count := (body.getD 0 0).toNat
    let at' (i k : Nat) : Nat := (body.getD (1 + 5 * i + k) 0).toNat
    let speed (i : Nat) := at' i 0 * 256 + at' i 1
    let limit (i : Nat) := at' i 3 * 256 + at' i 4
    body.length = 1 + 5 * count →
    (count < 2 ∨ 12 < count ∨ ∃ i, i < count ∧ (speed i < 50 ∨ 1200 < speed i ∨ 1 < at' i 2
      ∨ limit i < 20 ∨ 1000 < limit i)) →
    exec (.loadLadder w tag body) s =
      .next ((s.begin w).replied ⟨0x10, tag, body⟩ ⟨0x50, tag, .range, []⟩).arbitrate)
  ∧ (∀ (w : Wait) (tag : Octet) (l : List LadderStep) (s : State),
    s.link.inService = none → s.serv.mode = false → 2 ≤ l.length → l.length ≤ 12 →
    (∀ a ∈ l, 50 ≤ a.speed ∧ a.speed ≤ 1200 ∧ 20 ≤ a.limit ∧ a.limit ≤ 1000) →
    let b := s.begin w
    let f : Frame := ⟨0x10, tag, ladderBody l⟩
    (ladderRules l → s.spin.state = .idle → exec (.loadLadder w tag (ladderBody l)) s =
      .next (((b.setSpin { s.spin with ladder := l, target := none, ceiling := none, dwell := none }).setTable
        ({ s.table with
            baseline := Vector.replicate 12 (Vector.replicate 4 ⟨0, 0⟩)
            loaded := Vector.replicate 12 false }.flushNow b.time)).okReply f []).arbitrate)
    ∧ (¬ ladderRules l → exec (.loadLadder w tag (ladderBody l)) s =
      .next (b.replied f ⟨0x50, tag, .combination, []⟩).arbitrate)
    ∧ (ladderRules l → s.spin.state ≠ .idle → exec (.loadLadder w tag (ladderBody l)) s =
      .next (b.replied f ⟨0x50, tag, .state, []⟩).arbitrate))
  ∧ (∀ p : Params, p.inRange = true ↔
    ∀ e ∈ p.values.zip
      [(2, 16), (1, 8), (4, 400), (100, 1600), (50, 4000), (1, 5), (1, 4), (0, 3), (150, 600), (1, 10),
       (5, 50), (20, 400), (5, 50), (0, 31), (0, 2), (1, 50), (20, 60), (40, 120), (100, 2000),
       (0, 4000), (0, 4000), (0, 4000), (500, 10000), (500, 5000)],
      e.2.1 ≤ e.1 ∧ e.1 ≤ e.2.2)
  ∧ (∀ (w : Wait) (tag : Octet) (p : Params) (s : State),
    s.link.inService = none → s.serv.mode = false →
    (∀ e ∈ p.values.zip [1, 1, 2, 2, 2, 1, 1, 1, 2, 1, 1, 2, 1, 1, 1, 1, 1, 1, 2, 2, 2, 2, 2, 2],
      e.1 < 256 ^ e.2) →
    let b := s.begin w
    let f : Frame := ⟨0x11, tag, p.body⟩
    let agree := p.weighLow + 20 ≤ p.weighHigh ∧ p.threshold1 < p.threshold2
      ∧ p.threshold2 < p.threshold3
    (p.inRange = true → agree → s.spin.state = .idle → exec (.loadParameters w tag p.body) s =
      .next ((b.setSpin { s.spin with
        params := some p, attempts := min s.spin.attempts p.maxAttempts }).okReply f []).arbitrate)
    ∧ (p.inRange = false → exec (.loadParameters w tag p.body) s =
      .next (b.replied f ⟨0x51, tag, .range, []⟩).arbitrate)
    ∧ (p.inRange = true → ¬ agree → exec (.loadParameters w tag p.body) s =
      .next (b.replied f ⟨0x51, tag, .combination, []⟩).arbitrate)
    ∧ (p.inRange = true → agree → s.spin.state ≠ .idle → exec (.loadParameters w tag p.body) s =
      .next (b.replied f ⟨0x51, tag, .state, []⟩).arbitrate))
  ∧ (∀ (w : Wait) (tag : Octet) (i : Fin 12) (ks : Vector Pair 4) (s : State),
    s.link.inService = none →
    (∀ k ∈ ks, -32768 ≤ k.re ∧ k.re ≤ 32767 ∧ -32768 ≤ k.im ∧ k.im ≤ 32767) →
    let b := s.begin w
    let f : Frame := ⟨0x12, tag, baselineBody i.val ks⟩
    ((∀ k ∈ ks, 16 ≤ mag k) → i.val < s.spin.ladder.length →
      exec (.loadBaseline w tag (baselineBody i.val ks)) s =
        .next ((b.setTable { s.table with
          baseline := s.table.baseline.set i ks
          loaded := s.table.loaded.set i true
          marksA := s.table.marksA.set i false
          marksB := s.table.marksB.set i false }).okReply f []).arbitrate)
    ∧ ((∃ k ∈ ks, mag k < 16) → exec (.loadBaseline w tag (baselineBody i.val ks)) s =
      .next (b.replied f ⟨0x52, tag, .range, []⟩).arbitrate)
    ∧ ((∀ k ∈ ks, 16 ≤ mag k) → s.spin.ladder.length ≤ i.val →
      exec (.loadBaseline w tag (baselineBody i.val ks)) s =
        .next (b.replied f ⟨0x52, tag, .combination, []⟩).arbitrate))
  ∧ ∀ (w : Wait) (tag : Octet) (body : List Octet) (s : State), s.link.inService = none →
    body.length = 17 → 11 < (body.getD 0 0).toNat →
    exec (.loadBaseline w tag body) s =
      .next ((s.begin w).replied ⟨0x12, tag, body⟩ ⟨0x52, tag, .range, []⟩).arbitrate

/-- R77, R79, R81: Flush Table, in every spin state and mode: in QUIET the sets switch and a clear begins at
slot 0 with its 20 ms timer; in CLEARING the flush becomes pending; a further one is absorbed. Slots, marks,
baseline and history stay. R78, R80: CLEAR_EXPIRY clears the mark at the clear position in the set being cleared
and moves on; at slot 11 the clear ends in QUIET, or, with a flush pending, the sets switch and a new clear
begins from the expiry (log 24). With no clear due nothing happens (log 3). -/
def Obligations.FlushAndClear : Prop :=
  (∀ (w : Wait) (tag : Octet) (s : State), s.link.inService = none →
    let b := s.begin w
    let f : Frame := ⟨0x13, tag, []⟩
    (s.table.flush = .quiet → exec (.flushTable w tag []) s =
      .next ((b.setTable { s.table with
          active := s.table.active.other, flush := .clearing 0 ⟨b.time, 20000⟩ false }).okReply f
        [0, s.table.active.other.code]).arbitrate)
    ∧ (∀ pos t, s.table.flush = .clearing pos t false → exec (.flushTable w tag []) s =
      .next ((b.setTable { s.table with flush := .clearing pos t true }).okReply f
        [1, s.table.active.code]).arbitrate)
    ∧ (∀ pos t, s.table.flush = .clearing pos t true → exec (.flushTable w tag []) s =
      .next (b.okReply f [2, s.table.active.code]).arbitrate))
  ∧ (∀ (w : Wait) (s : State),
    let b := s.begin w
    (timerDue s.table.flush.timer b.time = false → exec (.clearExpiry w) s = .next b.arbitrate)
    ∧ (∀ (pos : Fin 12) (t : Timer) (p : Bool), s.table.flush = .clearing pos.val t p →
      t.due b.time = true →
      let cleared : Table :=
        match s.table.active with
        | .a => { s.table with marksB := s.table.marksB.set pos false }
        | .b => { s.table with marksA := s.table.marksA.set pos false }
      (pos.val < 11 → exec (.clearExpiry w) s =
        .next (b.setTable { cleared with
          flush := .clearing (pos.val + 1) ⟨t.start + BitVec.ofNat 32 t.us, t.us⟩ p }).arbitrate)
      ∧ (pos.val = 11 → p = false → exec (.clearExpiry w) s =
        .next (b.setTable { cleared with flush := .quiet }).arbitrate)
      ∧ (pos.val = 11 → p = true → exec (.clearExpiry w) s =
        .next (b.setTable { cleared with
          active := s.table.active.other
          flush := .clearing 0 ⟨b.time, 20000⟩ false }).arbitrate)))

/-- R25, R45, R60, R87, R111, R160, R177, R178, R186: an accepted Restart puts every block in its Restart
state, ends the orders STOPPED with no report, leaves service mode, and answers what it ended. Time, slots,
baseline, ladder, parameters, contents, the balancer mark, trace settings, reports, receiver, transmitter
and the force-baseline marks stay. Outside IDLE Restart is refused with STATE. -/
def Obligations.RestartKeepsAndClears : Prop :=
  (∀ (w : Wait) (tag : Octet) (s : State), s.link.inService = none → s.spin.state ≠ .idle →
    exec (.restart w tag []) s =
      .next ((s.begin w).replied ⟨0x03, tag, []⟩ ⟨0x43, tag, .state, []⟩).arbitrate)
  ∧ ∀ (w : Wait) (tag : Octet) (s : State), s.link.inService = none → s.spin.state = .idle →
    let b := s.begin w
    let ended :=
      match s.cham.flight with
      | some f => (s.cham.setLastEnd f.order.chamber .stopped).setLastEnds .stopped s.cham.queue
      | none => s.cham.setLastEnds .stopped s.cham.queue
    let entries : List Octet :=
      (match s.cham.flight with
       | some f => u8 f.order.chamber.val :: u16 f.order.amount ++ u16 f.delivered ++ [1]
       | none => [])
      ++ s.cham.queue.flatMap (fun o => u8 o.chamber.val :: u16 o.amount ++ [0, 0, 0])
    exec (.restart w tag []) s = .next (State.okReply
      { b with
        rot := { s.rot with
          rev := none, window := none, pendingSlot := none, counter := 0, sinceIndex := 0,
          fallback := true, indexLost := false }
        samp :=
          { read := s.samp.read.map (fun r => { r with dest := .nowhere })
            conv := s.samp.conv.map (fun c => { c with dest := .nowhere })
            invalidRun := 0, idleStrike := false }
        est := ⟨[], 0, none, none⟩
        weigh := Weigh.reset
        table := { s.table with
          marksA := Vector.replicate 12 false, marksB := Vector.replicate 12 false, active := .a,
          flush := .quiet, history := [] }
        spin := { Spin.reset with ladder := s.spin.ladder, params := s.spin.params }
        cham := { ended with
          queue := [], flight := none, supplyTimer := none, leak := 0, pendingFault := none }
        trace := { s.trace with queue := [], gap := 0 }
        link := { s.link with discards := ⟨0, 0, 0, 0, 0⟩ }
        serv := { s.serv with mode := false } }
      ⟨0x03, tag, []⟩
      ([boolOctet s.serv.mode,
        u8 ((if s.cham.flight.isSome then 1 else 0) + s.cham.queue.length)] ++ entries)).arbitrate

/-- R5, R24, R45, R60, R88, R90, R93, R99, R111 to R113, R159, R162, R179, R186, R187, R195: power-on reset,
field by field. The input levels, the draw counter and the queue are no state of the part (log 18). -/
def Obligations.PowerOnResetClearsThePart : Prop :=
  ∀ (w : Wait) (lsel : Bool) (s : State),
    let b := s.begin w
    exec (.powerOnReset w lsel) s = .next
      { time := 0
        pins := b.pins
        rot :=
          { rev := none, window := none, pendingSlot := none, counter := 0, sinceIndex := 0,
            lastEdge := none, slotSpeed := 0, speed := 0, fallback := true, stopped := true,
            standstill := none, indexLost := false }
        samp := { read := none, conv := none, invalidRun := 0, idleStrike := false }
        est := { window := [], m := 0, latest := none, preFill := none }
        weigh :=
          { phase := .off, t1 := none, t2 := none, accSum := 0, nAcc := 0, stable := 0,
            holdSum := 0, nHold := 0, holdRevs := 0, saturated := false, limit := none,
            result := .unweighed }
        table :=
          { slots := Vector.replicate 12 ⟨0, ⟨0, 0⟩, 0⟩, marksA := Vector.replicate 12 false,
            marksB := Vector.replicate 12 false, active := .a, flush := .quiet,
            baseline := Vector.replicate 12 (Vector.replicate 4 ⟨0, 0⟩),
            loaded := Vector.replicate 12 false, history := [] }
        spin :=
          { ladder := [], params := none, target := none, ceiling := none, dwell := none,
            attempts := 0, retreats := 0, plans := 0, state := .idle, dest := none, dir := none,
            rampCount := 0, rampTimer := none, settle := 0, sessionTimer := none, closing := none,
            lastEnd := none, demand := 0, den := false, brk := false }
        cham :=
          { chambers := Vector.replicate 4 ⟨0, none⟩, queue := [], flight := none,
            supplyTimer := none, leak := 0, balancer := true, pendingFault := none,
            bleedTimer := ⟨0, 100000⟩ }
        trace := { queue := [], enable := true, push := lsel, n := 4, m := 4, gap := 0 }
        link :=
          { fast := lsel, rx := .hunting, gapTimer := none, inService := none, waiting := none,
            replySlot := none, tx := none, reports := [], eventsDropped := false, dropped := 0,
            discards := ⟨0, 0, 0, 0, 0⟩ }
        serv := ⟨false, false, false⟩
        draw := b.draw
        pending := s.pending }

/-! ## Sessions -/

/-- R47, R96 to R99, R115, R116, R153, R154: a Start Spin that passes its checks with DFLT deasserted begins a
session in WEIGHING: target, ceiling, counts, timer, demand, DEN, the flush, the balancer mark and leak
count, the estimator, the weighing, the idle-strike mark and the gap count, one STATE report, and the
attempt count in the reply. The rest stays. R115, R169, R170: a Start Spin out of service mode is refused with RANGE
for a target above 11, a duration outside 30 to 1800 s or another flag bit; then with COMBINATION, when ladder and
parameters are loaded, for speed(0) not above weigh_high, hold_speed above the top step's speed, or a target that is
no DWELL step; then with STATE outside IDLE; then with NO_PROFILE and the three marks. The third mark without a ladder
is the model's choice (log 35). -/
def Obligations.StartSpinBeginsASession : Prop :=
  (∀ (w : Wait) (tag : Octet) (t d : Nat) (cont : Bool) (p : Params) (s : State),
    s.link.inService = none → s.serv.mode = false → s.spin.state = .idle →
    t ≤ 11 → 30 ≤ d → d ≤ 1800 →
    s.spin.ladder ≠ [] → s.spin.params = some p →
    (∀ i, i < s.spin.ladder.length → tget s.table.loaded i false = true) →
    p.weighHigh < s.spin.speedOf 0 → p.holdSpeed ≤ s.spin.speedOf (s.spin.ladder.length - 1) →
    s.spin.isDwell t = true → s.cham.pendingFault = none →
    let b := s.begin w
    let top := s.spin.ladder.length - 1
    let attempts := if cont = true then s.spin.attempts else 0
    b.pins.dflt = false →
    exec (.startSpin w tag (startBody t d cont)) s = .next (State.okReply
      (giveReport
        (.state ⟨.weighing, .idle, .start, none, none, none, some t, some top, p.weighHigh⟩)
        { b with
          table := s.table.flushNow b.time
          spin := { s.spin with
            state := .weighing, target := some t, ceiling := some top, attempts := attempts,
            retreats := 0, plans := 0, dwell := none, dest := none, dir := none, rampTimer := none,
            rampCount := 0, settle := 0, closing := none, den := true, demand := p.weighHigh,
            sessionTimer := some ⟨b.time, d * 1000000⟩ }
          cham := { s.cham with balancer := true, leak := 0 }
          est := ⟨[], 0, none, none⟩
          weigh := { Weigh.reset with phase := .below, limit := some ⟨b.time, 20000000⟩ }
          samp := { s.samp with
            conv := s.samp.conv.map (fun v => { v with dest := .nowhere }), idleStrike := false }
          rot := { s.rot with
            pendingSlot := s.rot.pendingSlot.map (fun q => { q with torque := none }) }
          trace := { s.trace with gap := 0 } })
      ⟨0x18, tag, startBody t d cont⟩ [u8 attempts]).arbitrate)
  ∧ ∀ (w : Wait) (tag t hi lo fl : Octet) (s : State), s.link.inService = none → s.serv.mode = false →
    let refused (r : ResultCode) (marks : List Octet) : Prop :=
      exec (.startSpin w tag [t, hi, lo, fl]) s =
        .next ((s.begin w).replied ⟨0x18, tag, [t, hi, lo, fl]⟩ ⟨0x58, tag, r, marks⟩).arbitrate
    let d := hi.toNat * 256 + lo.toNat
    let ranged := t.toNat ≤ 11 ∧ 30 ≤ d ∧ d ≤ 1800 ∧ fl.toNat ≤ 1
    let loaded := s.spin.ladder ≠ [] ∧ s.spin.params.isSome = true
    let agree := loaded → (s.spin.par.weighHigh < s.spin.speedOf 0
      ∧ s.spin.par.holdSpeed ≤ s.spin.speedOf (s.spin.ladder.length - 1)
      ∧ s.spin.isDwell t.toNat = true)
    let baseline := ∀ i, i < s.spin.ladder.length → tget s.table.loaded i false = true
    (¬ ranged → refused .range [])
    ∧ (ranged → ¬ agree → refused .combination [])
    ∧ (ranged → agree → s.spin.state ≠ .idle → refused .state [])
    ∧ (ranged → agree → s.spin.state = .idle → ¬ (loaded ∧ baseline) →
      refused .noProfile [flagOctet [s.spin.ladder ≠ [], s.spin.params.isSome,
        s.spin.ladder ≠ [] ∧ baseline]])

/-- R116, R133, R138: an accepted Start Spin with DFLT asserted aborts with cause DRIVE in the same event, and
on a standing basket the session also ends in it. R155, R156: with a pending supply fault the otherwise
acceptable Start Spin and Manual Fill are refused with SUPPLY_FAULT; the reply carries the record, the record is
made absent, and nothing else changes. -/
def Obligations.StartSpinUnderAFault : Prop :=
  (∀ (w : Wait) (tag : Octet) (t d : Nat) (cont : Bool) (p : Params) (s : State),
    s.link.inService = none → s.serv.mode = false → s.spin.state = .idle →
    t ≤ 11 → 30 ≤ d → d ≤ 1800 →
    s.spin.ladder ≠ [] → s.spin.params = some p →
    (∀ i, i < s.spin.ladder.length → tget s.table.loaded i false = true) →
    p.weighHigh < s.spin.speedOf 0 → p.holdSpeed ≤ s.spin.speedOf (s.spin.ladder.length - 1) →
    s.spin.isDwell t = true → s.cham.pendingFault = none → (s.begin w).pins.dflt = true →
    ∃ u : State, exec (.startSpin w tag (startBody t d cont)) s = .next u.arbitrate
      ∧ u.spin.den = false ∧ u.spin.demand = 0 ∧ u.spin.sessionTimer = none
      ∧ u.weigh = Weigh.reset ∧ u.table = s.table.flushNow (s.begin w).time
      ∧ (s.rot.stopped = false → u.spin.state = .aborting ∧ u.spin.closing = some .drive
        ∧ u.spin.brk = true)
      ∧ (s.rot.stopped = true → u.spin.state = .idle ∧ u.spin.closing = none
        ∧ u.spin.lastEnd = some .drive ∧ u.spin.brk = false)
      ∧ ∃ r, u.link.replySlot = some r ∧ r.result = .ok ∧ r.tag = tag
        ∧ r.fields = [u8 (if cont = true then s.spin.attempts else 0)])
  ∧ (∀ (w : Wait) (tag : Octet) (t d : Nat) (cont : Bool) (c : Fin 4) (g : Nat) (p : Params)
    (v : SupplyFault) (s : State),
    s.link.inService = none → s.cham.pendingFault = some v → s.spin.params = some p →
    let b := s.begin w
    let record : List Octet :=
      match v with
      | .supply k ordered delivered => [3, u8 k.val] ++ u16 ordered ++ u16 delivered ++ [0]
      | .leak n => [4, 0xFF, 0, 0, 0, 0, u8 n]
    (s.serv.mode = false → s.spin.state = .idle → t ≤ 11 → 30 ≤ d → d ≤ 1800 →
      s.spin.ladder ≠ [] → (∀ i, i < s.spin.ladder.length → tget s.table.loaded i false = true) →
      p.weighHigh < s.spin.speedOf 0 → p.holdSpeed ≤ s.spin.speedOf (s.spin.ladder.length - 1) →
      s.spin.isDwell t = true →
      exec (.startSpin w tag (startBody t d cont)) s =
        .next ((b.setCham { s.cham with pendingFault := none }).replied
          ⟨0x18, tag, startBody t d cont⟩ ⟨0x58, tag, .supplyFault, record⟩).arbitrate)
    ∧ (s.serv.mode = true → 1 ≤ g → g ≤ 400 →
      exec (.manualFill w tag (u8 c.val :: u16 g)) s =
        .next ((b.setCham { s.cham with pendingFault := none }).replied
          ⟨0x34, tag, u8 c.val :: u16 g⟩ ⟨0x74, tag, .supplyFault, record⟩).arbitrate))

/-- R97, R118, R128: Set Target by spin state: the new target alone; the redirection of a ramp; a descent in
RETREATING with reason TARGET; the refusal with STATE. That a redirected ramp takes its direction from the current speed
is the model's reading (log 40). The reply carries the target and the goal. -/
def Obligations.SetTargetByState : Prop :=
  ∀ (w : Wait) (tag t : Octet) (s : State),
    s.link.inService = none → s.serv.mode = false → t.toNat ≤ 11 → s.spin.isDwell t.toNat = true →
    let b := s.begin w
    let n := t.toNat
    let f : Frame := ⟨0x19, tag, [t]⟩
    let x := b.setSpin { s.spin with target := some n }
    let answer := [t, stepOctet (s.spin.ceiling.map (fun c => min n c))]
    let descent := s.spin.dwell.any (fun c => n < c)
    let plateau := s.spin.state = .settling ∨ s.spin.state = .measuring ∨ s.spin.state = .balancing
    (s.spin.state = .weighing → exec (.setTarget w tag [t]) s =
      .next (x.okReply f answer).arbitrate)
    ∧ (s.spin.state = .ramping → s.spin.dest.getD 0 ≤ n → exec (.setTarget w tag [t]) s =
      .next (x.okReply f answer).arbitrate)
    ∧ (s.spin.state = .ramping → n < s.spin.dest.getD 0 → descent = false →
      exec (.setTarget w tag [t]) s =
        .next ((x.setSpin { x.spin with
          dest := some n
          dir := some (if s.rot.speed < s.spin.speedOf n then .up else .down)
          demand := s.spin.speedOf n
          rampCount := 0
          rampTimer := some ⟨b.time, s.spin.rampUs (s.spin.speedOf n) s.rot.speed⟩ }).okReply f
            answer).arbitrate)
    ∧ (s.spin.state = .ramping → n < s.spin.dest.getD 0 → descent = true →
      exec (.setTarget w tag [t]) s =
        .next ((x.descending n .target).okReply f answer).arbitrate)
    ∧ (plateau → descent = false → exec (.setTarget w tag [t]) s =
      .next (x.okReply f answer).arbitrate)
    ∧ (plateau → descent = true → exec (.setTarget w tag [t]) s =
      .next ((x.descending n .target).okReply f answer).arbitrate)
    ∧ (s.spin.state = .idle ∨ s.spin.state = .retreating ∨ s.spin.state = .winddown
        ∨ s.spin.state = .aborting → exec (.setTarget w tag [t]) s =
      .next (b.replied f ⟨0x59, tag, .state, []⟩).arbitrate)

/-- R58, R129, R130, R133 to R136, R138: in an active state Stop and the session timer close the session into
WINDDOWN with DEN as it is, and an assertion of DFLT into ABORTING with DEN deasserted and BRK asserted; with
the stopped mark set the session ends in the same event. R129, R130, R133, R137: with no session active, Stop is
accepted and changes nothing, a session timer that is not due does nothing (log 3), an assertion of DFLT changes
its level alone in IDLE and ABORTING, and takes a WINDDOWN to ABORTING with the new cause. When a weighing is
discarded, the sample of a conversion still in progress enters no sum (log 21). -/
def Obligations.ClosingEvents : Prop :=
  (∀ (w : Wait) (tag : Octet) (s : State), s.spin.state.active = true →
    let b := s.begin w
    let down (c : Cause) := (b.sessionClosed .winddown c s.spin.den s.spin.brk).endedIfStopped
    (s.link.inService = none → s.serv.mode = false → exec (.stop w tag []) s =
      .next ((down .stop).okReply ⟨0x1A, tag, []⟩
        [if s.rot.stopped = true then 8 else 6]).arbitrate)
    ∧ (timerDue s.spin.sessionTimer b.time = true → exec (.sessionTimerExpiry w) s =
      .next (down .duration).arbitrate)
    ∧ exec (.dfltAsserted w) s =
      .next (((b.setPins { b.pins with dflt := true }).sessionClosed .aborting .drive false
        true).endedIfStopped).arbitrate)
  ∧ (∀ (w : Wait) (tag : Octet) (s : State),
    let b := s.begin w
    let faulted := b.setPins { b.pins with dflt := true }
    (s.spin.state.active = false → s.link.inService = none → s.serv.mode = false →
      exec (.stop w tag []) s =
        .next (b.okReply ⟨0x1A, tag, []⟩ [u8 s.spin.state.code]).arbitrate)
    ∧ (timerDue s.spin.sessionTimer b.time = false →
      exec (.sessionTimerExpiry w) s = .next b.arbitrate)
    ∧ (s.spin.state = .idle ∨ s.spin.state = .aborting →
      exec (.dfltAsserted w) s = .next faulted.arbitrate)
    ∧ (s.spin.state = .winddown → exec (.dfltAsserted w) s =
      .next ((faulted.sessionClosed .aborting .drive false true).endedIfStopped).arbitrate))

/-- R126, R127: a ramp timer that expires on an UP ramp to a step above 0 lowers the ceiling to the dwell step
below with a CEILING report of cause SHORTFALL and starts the descent to it; on any other ramp it aborts
the session with cause DRIVE. A timer that is not due does nothing (log 3). -/
def Obligations.RampTimeoutTurnsOrAborts : Prop :=
  ∀ (w : Wait) (s : State),
    let b := s.begin w
    let i := s.spin.dest.getD 0
    let j := s.spin.dwellBelow i
    (timerDue s.spin.rampTimer b.time = false → exec (.rampTimeout w) s = .next b.arbitrate)
    ∧ (timerDue s.spin.rampTimer b.time = true → s.spin.state = .ramping →
      s.spin.dir = some .up → 0 < i → exec (.rampTimeout w) s =
        .next ((giveReport (.ceiling ⟨j, s.spin.ceiling, .shortfall, s.spin.dwell, s.spin.target⟩)
          (b.setSpin { s.spin with ceiling := some j })).descending j .shortfall).arbitrate)
    ∧ (timerDue s.spin.rampTimer b.time = true → s.spin.state.hasRamp = true →
      (s.spin.dir ≠ some .up ∨ i = 0) → exec (.rampTimeout w) s =
        .next ((b.sessionClosed .aborting .drive false true).endedIfStopped).arbitrate)

/-- R56, R57, R117, R118: at the weigh limit the weighing fails with LIMIT: class 3, the phase OFF, what was
measured kept for the WEIGHED report, and the UP ramp to step 0 starts with reason WEIGHED. R50: a conversion in
progress keeps the sum of the phase at its slot edge (log 21). A limit that is not due does nothing (log 3). -/
def Obligations.WeighLimitEndsTheWeighing : Prop :=
  ∀ (w : Wait) (s : State),
    let b := s.begin w
    (timerDue s.weigh.limit b.time = false → exec (.weighLimitExpiry w) s = .next b.arbitrate)
    ∧ (timerDue s.weigh.limit b.time = true → s.weigh.phase ≠ .off → s.spin.state = .weighing →
      exec (.weighLimitExpiry w) s = .next
        (giveReport
          (.state ⟨.ramping, .weighing, .weighed, s.spin.dwell, some 0, some .up, s.spin.target,
            s.spin.ceiling, s.spin.speedOf 0⟩)
          (giveReport
            (.weighed
              { cls := 3, fail := some .limit, inertiaJ := none, hold := none
                acc := if s.weigh.t1.isSome = true ∧ s.weigh.nAcc ≠ 0 then
                    some ⟨s.weigh.accSum / s.weigh.nAcc, s.weigh.nAcc⟩ else none
                dt := s.weigh.t1.bind (fun p => s.weigh.t2.map (fun q =>
                    (q.stamp - p.stamp).toNat / 1000))
                w1 := s.weigh.t1.map ClimbEdge.speed
                w2 := s.weigh.t2.map ClimbEdge.speed })
            { b with
              weigh := { s.weigh with phase := .off, limit := none, result := .failed .limit }
              spin := { s.spin with
                state := .ramping, dest := some 0, dir := some .up, demand := s.spin.speedOf 0,
                rampCount := 0, plans := 0
                rampTimer := some ⟨b.time, s.spin.rampUs (s.spin.speedOf 0) s.rot.speed⟩ }
              est := { s.est with window := [], m := 0, preFill := none } })).arbitrate)

/-! ## The water supply and Deposits -/

/-- R144, R145, R147, R193: an accepted Manual Fill by case: FULL, MERGED, REPLACED, QUEUED, STARTED, with the outcome
and the clamped amount in the reply. Contents, the spin record and the estimator stay. R151: without parameters it is
refused with NOT_READY. R145, R147, R151, R194: Stop Fill for ALL ends every order; for one chamber it ends that
chamber's order, in flight or queued, with its own FILL_END report; in flight, the line closes or the next order
starts; a chamber with no order is left as it is. The next order that starts is the first whose amount, clamped to its
room, is not 0, and the ones before it end CAPACITY (R145; FlowPulseFillsTheChamber says what startNext does). The
reply carries the number of orders ended, which does not count those (the model's reading, log 30). -/
def Obligations.ServiceFills : Prop :=
  (∀ (w : Wait) (tag : Octet) (c : Fin 4) (g : Nat) (p : Params) (s : State),
    s.link.inService = none → s.serv.mode = true → 1 ≤ g → g ≤ 400 → s.spin.params = some p →
    s.cham.pendingFault = none → (∀ o ∈ s.cham.orders, o.origin = .service) →
    let b := s.begin w
    let body := u8 c.val :: u16 g
    let content := s.cham.chambers[c].content
    let a := min g (400 - content)
    let o : Order := ⟨c, a, .service⟩
    let queued := ∃ q ∈ s.cham.queue, q.chamber = c
    let done (x : State) (outcome : Octet) : Host.Outcome State Fault Refusal :=
      .next (x.okReply ⟨0x34, tag, body⟩ (outcome :: u16 a)).arbitrate
    (a = 0 → exec (.manualFill w tag body) s = done
      (giveReport
        (.fillEnd ⟨⟨c, 0, .service⟩, 0, 0, .capacity, content,
          s.cham.queue.filter (fun q => q.chamber = c)⟩)
        (b.setCham { s.cham.setLastEnd c .capacity with
          queue := s.cham.queue.filter (fun q => q.chamber ≠ c) })) 4)
    ∧ (a ≠ 0 → queued → exec (.manualFill w tag body) s = done
      (b.setCham { s.cham with
        queue := s.cham.queue.map (fun q => if q.chamber = c then o else q) }) 0)
    ∧ (∀ f, a ≠ 0 → ¬ queued → s.cham.flight = some f → f.order.chamber = c →
      exec (.manualFill w tag body) s = done
        (giveReport (.fillEnd ⟨f.order, f.pulses, f.delivered, .replaced, content, []⟩)
          (b.setCham { s.cham.setLastEnd c .replaced with flight := some ⟨o, content, 0, 0⟩ })) 1)
    ∧ (∀ f, a ≠ 0 → ¬ queued → s.cham.flight = some f → f.order.chamber ≠ c →
      exec (.manualFill w tag body) s = done
        (b.setCham { s.cham with queue := s.cham.queue ++ [o] }) 3)
    ∧ (a ≠ 0 → s.cham.queue = [] → s.cham.flight = none → exec (.manualFill w tag body) s = done
      (b.setCham { s.cham with
        flight := some ⟨o, content, 0, 0⟩
        supplyTimer := some ⟨b.time, p.supplyTimeout * 1000⟩ }) 2))
  ∧ (∀ (w : Wait) (tag : Octet) (c : Fin 4) (g : Nat) (s : State),
    s.link.inService = none → s.serv.mode = true → 1 ≤ g → g ≤ 400 → s.spin.params = none →
    exec (.manualFill w tag (u8 c.val :: u16 g)) s =
      .next ((s.begin w).replied ⟨0x34, tag, u8 c.val :: u16 g⟩ ⟨0x74, tag, .notReady, []⟩).arbitrate)
  ∧ (∀ (w : Wait) (tag : Octet) (c : Fin 4) (s : State),
    s.link.inService = none → s.serv.mode = true → (∀ o ∈ s.cham.orders, o.origin = .service) →
    let b := s.begin w
    let content := s.cham.chambers[c].content
    let done (x : State) (n : Octet) (count : Nat) : Host.Outcome State Fault Refusal :=
      .next (x.okReply ⟨0x35, tag, [n]⟩ [u8 count]).arbitrate
    (exec (.stopFill w tag [4]) s =
      done (b.endAll .stopped) 4 ((if s.cham.flight.isSome then 1 else 0) + s.cham.queue.length))
    ∧ (∀ f, s.cham.flight = some f → f.order.chamber = c →
      let report : Report := .fillEnd ⟨f.order, f.pulses, f.delivered, .stopped, content, []⟩
      (s.cham.queue = [] → exec (.stopFill w tag [u8 c.val]) s = done
        (giveReport report (b.setCham { s.cham.setLastEnd c .stopped with
          flight := none, supplyTimer := none, leak := 0 })) (u8 c.val) 1)
      ∧ (∀ o rest, s.cham.queue = o :: rest → o.chamber ≠ c →
        let room := 400 - s.cham.chambers[o.chamber].content
        min o.amount room ≠ 0 → exec (.stopFill w tag [u8 c.val]) s = done
          (giveReport report (b.setCham { s.cham.setLastEnd c .stopped with
            queue := rest
            flight := some ⟨{ o with amount := min o.amount room },
              s.cham.chambers[o.chamber].content, 0, 0⟩
            supplyTimer := some ⟨b.time, s.spin.par.supplyTimeout * 1000⟩ })) (u8 c.val) 1)
      ∧ (s.cham.queue ≠ [] →
        let z := (giveReport report (b.setCham { s.cham.setLastEnd c .stopped with
          flight := none, supplyTimer := none })).startNext
        let y := if z.cham.flight.isSome = true then z else z.setCham { z.cham with leak := 0 }
        exec (.stopFill w tag [u8 c.val]) s = done y (u8 c.val) 1))
    ∧ (∀ o, s.cham.queue.find? (fun q => q.chamber = c) = some o →
      (∀ f, s.cham.flight = some f → f.order.chamber ≠ c) →
      exec (.stopFill w tag [u8 c.val]) s = done
        (giveReport (.fillEnd ⟨o, 0, 0, .stopped, content, []⟩)
          (b.setCham { s.cham.setLastEnd c .stopped with
            queue := s.cham.queue.filter (fun q => q.chamber ≠ c) })) (u8 c.val) 1)
    ∧ ((∀ o ∈ s.cham.orders, o.chamber ≠ c) →
      exec (.stopFill w tag [u8 c.val]) s = done b (u8 c.val) 0))

/-- R62, R86, R191: an accepted slot Deposit writes tag, coefficient and a check that agrees unless the wrong-
check flag is set, and sets or clears the one mark its valid choice names; the reply shows the slot. No other
slot, mark or part of the table changes. R146, R147, R192: an accepted chamber Deposit sets the content, clamped
to 400, and nothing else, unless the chamber is filling and the content becomes 400: then its order ends
CAPACITY and the arbiter goes on with the queued orders: the first whose amount, clamped to its room, is not 0 starts,
and the ones before it end CAPACITY (R145; FlowPulseFillsTheChamber says what startNext does). The reply shows the
chamber. That the target octets are 2 and 3 is the model's reading (log 6), and so is that a NONE Deposit leaves the
mark of the other set even where an earlier STANDBY Deposit set it (log 37). -/
def Obligations.DepositRequests : Prop :=
  (∀ (w : Wait) (tag : Octet) (i : Fin 12) (t : Fin 4) (k : Pair) (choice : Fin 3) (wrong : Bool)
    (s : State),
    s.link.inService = none → s.serv.mode = true →
    -32768 ≤ k.re → k.re ≤ 32767 → -32768 ≤ k.im → k.im ≤ 32767 →
    (choice ≠ 0 → 16 ≤ mag k) → (choice = 2 → s.table.flush = .quiet) →
    let b := s.begin w
    let fields := depositSlotFields i.val t.val k choice.val wrong
    ∃ (check : BitVec 16) (a' b' : Vector Bool 12),
      (check = Config.checkValue t k ↔ wrong = false)
      ∧ a' = (if choice = 2 then
            (if s.table.active = .b then s.table.marksA.set i true else s.table.marksA)
          else if s.table.active = .a then s.table.marksA.set i (choice = 1) else s.table.marksA)
      ∧ b' = (if choice = 2 then
            (if s.table.active = .a then s.table.marksB.set i true else s.table.marksB)
          else if s.table.active = .b then s.table.marksB.set i (choice = 1) else s.table.marksB)
      ∧ exec (.depositSlot w tag fields) s =
        .next ((b.setTable { s.table with
            slots := s.table.slots.set i ⟨t, k, check⟩, marksA := a', marksB := b' }).okReply
          ⟨0x33, tag, 2 :: fields⟩
          ([2, u8 i.val, u8 i.val, u8 t.val] ++ pair16 k
            ++ [flagOctet [a'[i], b'[i], s.table.active = .b, !wrong]])).arbitrate)
  ∧ (∀ (w : Wait) (tag : Octet) (c : Fin 4) (g : Nat) (s : State),
    s.link.inService = none → s.serv.mode = true → g ≤ 65535 →
    let b := s.begin w
    let fields := depositChamberFields c g
    let x := b.setCham (s.cham.setContent c (min g 400))
    (((∀ f, s.cham.flight = some f → f.order.chamber ≠ c) ∨ g < 400) →
      exec (.depositChamber w tag fields) s =
        .next (x.okReply ⟨0x33, tag, 3 :: fields⟩
          ([3, u8 c.val] ++ x.chamberItem c)).arbitrate)
    ∧ (∀ f, s.cham.flight = some f → f.order.chamber = c → f.order.origin = .service →
      s.cham.queue = [] → 400 ≤ g →
      let y := giveReport (.fillEnd ⟨f.order, f.pulses, f.delivered, .capacity, 400, []⟩)
        (x.setCham { x.cham.setLastEnd c .capacity with
          flight := none, supplyTimer := none, leak := 0 })
      exec (.depositChamber w tag fields) s =
        .next (y.okReply ⟨0x33, tag, 3 :: fields⟩
          ([3, u8 c.val] ++ y.chamberItem c)).arbitrate)
    ∧ (∀ f, s.cham.flight = some f → f.order.chamber = c → f.order.origin = .service →
      s.cham.queue ≠ [] → 400 ≤ g →
      let y := (giveReport (.fillEnd ⟨f.order, f.pulses, f.delivered, .capacity, 400, []⟩)
        (x.setCham { x.cham.setLastEnd c .capacity with
          flight := none, supplyTimer := none })).startNext
      let z := if y.cham.flight.isSome = true then y else y.setCham { y.cham with leak := 0 }
      exec (.depositChamber w tag fields) s =
        .next (z.okReply ⟨0x33, tag, 3 :: fields⟩
          ([3, u8 c.val] ++ z.chamberItem c)).arbitrate))

/-- R40, R123, R145 to R148, R152, R153: a flow pulse counted for the order in flight: the delivered amount,
the content and the supply timer; the end COMPLETE or CAPACITY, with the water handed to the pre-fill record
for a planner's order, the next order started, or the line closed and, for a plan's last order, the
settling after the fill. R145: a queued order whose amount, clamped once more to the room when it would start, is 0 ends
CAPACITY with delivered 0 and its report, and the arbiter goes on to the next one in the same event. -/
def Obligations.FlowPulseFillsTheChamber : Prop :=
  (∀ (w : Wait) (f : Flight) (s : State), s.cham.flight = some f →
    let b := s.begin w
    let c := f.order.chamber
    let d := (f.pulses + 1) * 10 / s.spin.par.flowCal
    let v := min 400 (s.cham.chambers[c].content + (d - f.delivered))
    let metered := s.cham.setContent c v
    let r : EndReason := if f.order.amount ≤ d then .complete else .capacity
    let ends := f.order.amount ≤ d ∨ v = 400
    let report : Report := .fillEnd ⟨f.order, f.pulses + 1, d, r, v, []⟩
    let credited : Estimator := { s.est with
      preFill := s.est.preFill.map (fun q =>
        { q with delivered := q.delivered.set c (q.delivered[c] + d) }) }
    (¬ ends → exec (.flowPulse w) s =
      .next (b.setCham { metered with
        flight := some { f with pulses := f.pulses + 1, delivered := d }
        supplyTimer := some ⟨b.time, s.spin.par.supplyTimeout * 1000⟩ }).arbitrate)
    ∧ (ends → s.cham.queue = [] →
      let closed := b.setCham { metered.setLastEnd c r with
        flight := none, supplyTimer := none, leak := 0 }
      (f.order.origin = .service → exec (.flowPulse w) s =
        .next (giveReport report closed).arbitrate)
      ∧ (f.order.origin = .planner → s.spin.state = .balancing → exec (.flowPulse w) s =
        .next (giveReport
          (.state ⟨.settling, .balancing, .filled, s.spin.dwell, s.spin.dest, s.spin.dir,
            s.spin.target, s.spin.ceiling, s.spin.demand⟩)
          ((giveReport report (closed.setEst credited)).setSpin
            { s.spin with state := .settling, settle := 0 })).arbitrate))
    ∧ (∀ o rest, ends → s.cham.queue = o :: rest → o.chamber ≠ c →
      let content := s.cham.chambers[o.chamber].content
      min o.amount (400 - content) ≠ 0 →
      let next := giveReport report (b.setCham { metered.setLastEnd c r with
        queue := rest
        flight := some ⟨{ o with amount := min o.amount (400 - content) }, content, 0, 0⟩
        supplyTimer := some ⟨b.time, s.spin.par.supplyTimeout * 1000⟩ })
      (f.order.origin = .service → exec (.flowPulse w) s = .next next.arbitrate)
      ∧ (f.order.origin = .planner →
        exec (.flowPulse w) s = .next (next.setEst credited).arbitrate))
    ∧ (ends → s.cham.queue ≠ [] →
      let z := ((giveReport report (b.setCham { metered.setLastEnd c r with
        flight := none, supplyTimer := none })).setEst
          (if f.order.origin = .planner then credited else s.est)).startNext
      let closed := z.setCham { z.cham with leak := 0 }
      (z.cham.flight.isSome = true → exec (.flowPulse w) s = .next z.arbitrate)
      ∧ (z.cham.flight = none → f.order.origin = .service →
        exec (.flowPulse w) s = .next closed.arbitrate)
      ∧ (z.cham.flight = none → f.order.origin = .planner → s.spin.state = .balancing →
        exec (.flowPulse w) s = .next (giveReport
          (.state ⟨.settling, .balancing, .filled, s.spin.dwell, s.spin.dest, s.spin.dir,
            s.spin.target, s.spin.ceiling, s.spin.demand⟩)
          (closed.setSpin { s.spin with state := .settling, settle := 0 })).arbitrate)))
  ∧ ∀ s : State, s.cham.flight = none →
    (s.cham.queue = [] → s.startNext = s)
    ∧ ∀ o rest, s.cham.queue = o :: rest →
      let content := s.cham.chambers[o.chamber].content
      let a := min o.amount (400 - content)
      let ended := giveReport (.fillEnd ⟨{ o with amount := 0 }, 0, 0, .capacity, content, []⟩)
        (s.setCham { s.cham.setLastEnd o.chamber .capacity with queue := rest })
      (a ≠ 0 → s.startNext = s.setCham { s.cham with
        queue := rest
        flight := some ⟨{ o with amount := a }, content, 0, 0⟩
        supplyTimer := some ⟨s.time, s.spin.par.supplyTimeout * 1000⟩ })
      ∧ (a = 0 → s.startNext = ended.startNext)

/-- R153 to R155: a flow pulse with no order in flight counts as a leak pulse, saturating at 255; the twentieth
clears the balancer-available mark, becomes the pending supply fault and gives the FAULT report. R142: a bleed
expiry that is due takes bleed grams from every chamber while the current speed is below hold_speed, but for a
chamber filling under a planner's order, and changes nothing but the contents and the bleed timer; with no
parameters loaded, or at hold_speed and above, only the timer goes on. The next period starts where the last one
ended (log 24); a bleed timer that is not due does nothing (log 3). -/
def Obligations.LeakPulsesAndBleed : Prop :=
  (∀ (w : Wait) (s : State), s.cham.flight = none →
    let b := s.begin w
    (s.cham.leak ≠ 19 → exec (.flowPulse w) s =
      .next (b.setCham { s.cham with leak := min 255 (s.cham.leak + 1) }).arbitrate)
    ∧ (s.cham.leak = 19 → exec (.flowPulse w) s =
      .next (giveReport (.fault (.leak 20)) (b.setCham { s.cham with
        leak := 20, balancer := false, pendingFault := some (.leak 20) })).arbitrate))
  ∧ (∀ (w : Wait) (s : State),
    let b := s.begin w
    let timer := s.cham.bleedTimer
    let again : Timer := ⟨timer.start + BitVec.ofNat 32 timer.us, timer.us⟩
    (timer.due b.time = false → exec (.bleedExpiry w) s = .next b.arbitrate)
    ∧ (timer.due b.time = true → (s.spin.params = none ∨ s.spin.par.holdSpeed ≤ s.rot.speed) →
      exec (.bleedExpiry w) s = .next (b.setCham { s.cham with bleedTimer := again }).arbitrate)
    ∧ (∀ p, timer.due b.time = true → s.spin.params = some p → s.rot.speed < p.holdSpeed →
      ∃ v : Vector Chamber 4,
        exec (.bleedExpiry w) s =
          .next (b.setCham { s.cham with bleedTimer := again, chambers := v }).arbitrate
        ∧ ∀ c : Fin 4, v[c].lastEnd = s.cham.chambers[c].lastEnd
          ∧ v[c].content =
            if ∃ f, s.cham.flight = some f ∧ f.order.chamber = c ∧ f.order.origin = .planner
            then s.cham.chambers[c].content else s.cham.chambers[c].content - p.bleed))

/-- R123, R148, R152, R154, R155: at the supply timer's expiry every order ends SUPPLY, the balancer-available mark is
cleared, the fault becomes the pending one, the FAULT report follows the FILL_END report, and the end of a plan's order
leads to SETTLING. That the FAULT report comes before the STATE report is the model's reading (log 31); a timer that is
not due does nothing (log 3). -/
def Obligations.SupplyTimeoutDeclaresAFault : Prop :=
  ∀ (w : Wait) (s : State),
    let b := s.begin w
    (timerDue s.cham.supplyTimer b.time = false → exec (.supplyTimeout w) s = .next b.arbitrate)
    ∧ (∀ f, timerDue s.cham.supplyTimer b.time = true → s.cham.flight = some f →
      let fault : SupplyFault := .supply f.order.chamber f.order.amount f.delivered
      let ended := b.endAll .supply
      let noted := giveReport (.fault (.supply f.order.chamber f.order.amount f.delivered))
        (ended.setCham { ended.cham with balancer := false, pendingFault := some fault })
      (f.order.origin = .service → exec (.supplyTimeout w) s = .next noted.arbitrate)
      ∧ (f.order.origin = .planner → s.spin.state = .balancing → exec (.supplyTimeout w) s =
        .next (giveReport
          (.state ⟨.settling, .balancing, .filled, s.spin.dwell, s.spin.dest, s.spin.dir,
            s.spin.target, s.spin.ceiling, s.spin.demand⟩)
          (noted.setSpin { s.spin with state := .settling, settle := 0 })).arbitrate))

/-! ## Rotation, samples, standstill -/

/-- R7, R8, R52: a pairing window that runs out closes; a pending slot edge whose hold runs out becomes the
next slot of the open revolution with its sample, its looks and its torque sample. That it joins none in WAITING is
the model's reading (log 12); an expiry that is not due does nothing (log 3). -/
def Obligations.PairingExpiries : Prop :=
  ∀ (w : Wait) (s : State),
    let b := s.begin w
    let held := s.weigh.phase = .holding
    (timerDue s.rot.window b.time = false → exec (.pairingWindowExpiry w) s = .next b.arbitrate)
    ∧ (timerDue s.rot.window b.time = true → exec (.pairingWindowExpiry w) s =
      .next (b.setRot { s.rot with window := none }).arbitrate)
    ∧ ((∀ q, s.rot.pendingSlot = some q → q.timer.due b.time = false) →
      exec (.pendingPairingExpiry w) s = .next b.arbitrate)
    ∧ (∀ q, s.rot.pendingSlot = some q → q.timer.due b.time = true → s.rot.rev = none →
      exec (.pendingPairingExpiry w) s = .next (State.arbitrate { b with
        rot := { s.rot with pendingSlot := none }
        samp := { s.samp with
          read := s.samp.read.map (fun r => if r.dest = .pending then { r with dest := .nowhere } else r)
          conv := s.samp.conv.map
            (fun r => if r.dest = .pending then { r with dest := .nowhere } else r) } }))
    ∧ (∀ q v, s.rot.pendingSlot = some q → q.timer.due b.time = true → s.rot.rev = some v →
      exec (.pendingPairingExpiry w) s = .next (State.arbitrate { b with
        rot := { s.rot with
          pendingSlot := none
          rev := some { v with
            slots := v.slots + 1
            samples := if v.slots < 32 then v.samples ++ [q.sample] else v.samples
            ramping := v.ramping || q.ramping
            filling := v.filling || q.filling
            struck := v.struck || q.struck } }
        samp := { s.samp with
          read := s.samp.read.map
            (fun r => if r.dest = .pending then { r with dest := .slot v.slots } else r)
          conv := s.samp.conv.map (fun r => if r.dest = .pending then
            { r with dest := if held then .hold else .nowhere } else r) }
        weigh := match q.torque with
          | some t => if held then { s.weigh with
              holdSum := s.weigh.holdSum + t
              nHold := min 65535 (s.weigh.nHold + 1)
              saturated := s.weigh.saturated || t == 20000 } else s.weigh
          | none => s.weigh }))

/-- R7, R9, R13, R15: an index edge in WAITING opens a revolution and hands on no record: with its pairing
window open, or with the pending slot edge as its slot 0. The index-lost mark clears. That this holds while the
stopped mark is set too is the model's reading (log 34). R52: in HOLDING the torque sample of that slot edge, and one
still to come for it, go to the hold sum. -/
def Obligations.IndexEdgeOpensARevolution : Prop :=
  ∀ (w : Wait) (sf : Bool) (s : State), s.rot.rev = none →
    let b := s.begin w
    let held := s.weigh.phase = .holding
    let ramping := s.spin.state.rampingLook
    let filling := s.cham.flight.isSome
    (s.rot.pendingSlot = none → (∀ c, s.samp.conv = some c → c.dest ≠ .pending) →
      exec (.indexEdge w sf) s =
        .next (b.setRot { s.rot with
          rev := some ⟨b.time, false, 0, [], ramping, filling, false⟩
          window := some ⟨b.time, 200⟩, sinceIndex := 0, indexLost := false }).arbitrate)
    ∧ (∀ q, s.rot.pendingSlot = some q → exec (.indexEdge w sf) s = .next (State.arbitrate { b with
        rot := { s.rot with
          rev := some ⟨b.time, true, 1, [q.sample], ramping || q.ramping, filling || q.filling,
            q.struck⟩
          window := none, pendingSlot := none, sinceIndex := 1, indexLost := false }
        samp := { s.samp with
          read := s.samp.read.map (fun r => if r.dest = .pending then { r with dest := .slot 0 } else r)
          conv := s.samp.conv.map (fun r => if r.dest = .pending then
            { r with dest := if held then .hold else .nowhere } else r) }
        weigh := match q.torque with
          | some t => if held then { s.weigh with
              holdSum := s.weigh.holdSum + t
              nHold := min 65535 (s.weigh.nHold + 1)
              saturated := s.weigh.saturated || t == 20000 } else s.weigh
          | none => s.weigh }))

/-- R7, R9 to R15, R22: an index edge in TIMING closes the open revolution: the counter goes up, a well-timed
revolution sets the current speed and ends the fallback, the next revolution opens, and the record, with its number,
period, speed, slots, peak and flags, is handed on: to the Trace Queue first (log 38), then to the blocks that take the
record and, for a lowered current speed, to the Chamber Controller, in either order (R14, R150; log 10). The period is
not 0 and every read of the revolution has completed (log 8, log 9). Whether a slot edge follows in the window comes
with the command (log 4), the edge looks once, before it changes anything (log 11), and counter and current speed are
set before the record is handed on (log 20); a revolution opened while the stopped mark was set closes so too (log 34).
R123, R148, R150: a current speed that comes from hold_speed or above to below it (log 19) ends every order of the
planner's plan in flight SPEED, which in BALANCING is a fill end and leads to SETTLING; any other speed, and any order
but the planner's in flight, changes nothing. R52: the torque sample of a pending slot edge that becomes slot 0, and
one still to come for it, go to the hold sum when the weighing is then in HOLDING, and to no sum otherwise. -/
def Obligations.IndexEdgeClosesARevolution : Prop :=
  (∀ (w : Wait) (sf : Bool) (v : Revolution) (s : State), s.rot.rev = some v →
    let b := s.begin w
    let pend := s.rot.pendingSlot
    let ramping := s.spin.state.rampingLook
    let filling := s.cham.flight.isSome
    let period := b.time - v.openedAt
    let wellTimed := v.slots = 32 && v.paired && (pend.isSome || sf)
    let speed := min 4000 ((120000000 + period.toNat) / (2 * period.toNat))
    let r : RevRecord :=
      { number := s.rot.counter, period := period, speed := speed, slots := v.slots,
        samples := v.samples, peak := peakOf v.samples, wellTimed := wellTimed,
        irregular := !wellTimed || v.samples.any (fun x => x == .invalid),
        ramping := v.ramping || ramping, filling := v.filling || filling }
    let next : State := { b with
      rot := { s.rot with
        counter := s.rot.counter + 1
        speed := if wellTimed = true then speed else s.rot.speed
        fallback := if wellTimed = true then false else s.rot.fallback
        indexLost := false
        pendingSlot := none
        sinceIndex := if pend.isSome = true then 1 else 0
        window := if pend.isSome = true then none else some ⟨b.time, 200⟩
        rev := match pend with
          | some q => some ⟨b.time, true, 1, [q.sample], ramping || q.ramping,
              filling || q.filling, q.struck⟩
          | none => some ⟨b.time, false, 0, [], ramping, filling, false⟩ }
      samp := { s.samp with
        idleStrike := s.samp.idleStrike && v.struck
        read := s.samp.read.map (fun x => match x.dest with
          | .slot _ => { x with dest := .nowhere }
          | .pending => if pend.isSome = true then { x with dest := .slot 0 } else x
          | .nowhere => x) } }
    let traced := next.traceRevolution r
    let handed := if Config.speedTakenFirst (s.draw + 1) = true
      then (traced.speedChanged s.rot.speed).takeRecord r
      else (traced.takeRecord r).speedChanged s.rot.speed
    period ≠ 0 → (∀ x ∈ v.samples, x ≠ .unread) →
      exec (.indexEdge w sf) s =
        .next (handed.torqueAssigned (pend.bind PendingSlot.torque)).arbitrate)
  ∧ (∀ (s : State) (old : Nat),
    let falls := ∃ p, s.spin.params = some p ∧ p.holdSpeed ≤ old ∧ s.rot.speed < p.holdSpeed
    let planned := ∃ f, s.cham.flight = some f ∧ f.order.origin = .planner
    (¬ (falls ∧ planned) → s.speedChanged old = s)
    ∧ (falls → planned → s.spin.state = .balancing → s.speedChanged old =
      giveReport
        (.state ⟨.settling, .balancing, .filled, s.spin.dwell, s.spin.dest, s.spin.dir,
          s.spin.target, s.spin.ceiling, s.spin.demand⟩)
        ((s.endAll .speed).setSpin { s.spin with state := .settling, settle := 0 }))
    ∧ (falls → planned → s.spin.state ≠ .balancing → s.speedChanged old = s.endAll .speed))
  ∧ ∀ (s : State) (torque : Option Nat),
    let held := s.weigh.phase = .holding
    s.torqueAssigned torque = { s with
      samp := { s.samp with
        conv := s.samp.conv.map (fun r => if r.dest = .pending then
          { r with dest := if held then .hold else .nowhere } else r) }
      weigh := match torque with
        | some t => if held then { s.weigh with
            holdSum := s.weigh.holdSum + t
            nHold := min 65535 (s.weigh.nHold + 1)
            saturated := s.weigh.saturated || t == 20000 } else s.weigh
        | none => s.weigh }

/-- R6, R7, R11, R13, R15 to R20, R23, R150: a slot edge that brings neither index loss nor an eighth invalid pair: its
time, slot speed and standstill timer, the current speed under the fallback with what a lowered speed does to a plan's
fills (IndexEdgeClosesARevolution), its read and conversion, its place (slot 0 when a pairing window is open, otherwise
pending pairing, the earlier pending one having joined; log 12), and the count for index loss, in this order (log 13),
its looks at spin state and filling coming before it changes anything (log 11);
an edge that starts no read counts as an invalid pair at once (log 14). R48 to R50: in BELOW the first slot edge of
weigh_low or more gives t1, ω1 and ACCELERATING, and in ACCELERATING, that edge included, the first of weigh_high or
more gives t2, ω2 and STEADYING; the samples of the slot edges from t1 to t2 enter the acceleration sum. -/
def Obligations.SlotEdgeIsTimedSampledAndPlaced : Prop :=
  ∀ (w : Wait) (s : State),
    (s.rot.sinceIndex < 47 ∨ s.rot.indexLost = true) →
    (s.samp.read.isSome = true → s.samp.invalidRun ≠ 7) →
    (∀ t, s.rot.stopped = false → s.rot.lastEdge = some t → (s.begin w).time ≠ t) →
    let b := s.begin w
    let ramping := s.spin.state.rampingLook
    let filling := s.cham.flight.isSome
    let v := match s.rot.stopped, s.rot.lastEdge with
      | false, some t => min 4000 ((3750000 + (b.time - t).toNat) / (2 * (b.time - t).toNat))
      | _, _ => 0
    let e := (b.setRot { s.rot with
      speed := if s.rot.fallback = true then v else s.rot.speed }).speedChanged s.rot.speed
    let j := e.joinPending
    let timed (t : Rotation) : Rotation := { t with
      lastEdge := some b.time, slotSpeed := v, stopped := false, standstill := some ⟨b.time, 500000⟩
      sinceIndex := min 48 (s.rot.sinceIndex + 1) }
    let sampled (m : Sampler) (dest : ReadDest) (torque : TorqueDest) : Sampler :=
      { read := if m.read.isSome = true then m.read else some ⟨⟨b.time, 18⟩, dest⟩
        conv := if m.conv.isSome = true then m.conv else some ⟨⟨b.time, 12⟩, torque⟩
        invalidRun := if m.read.isSome = true then min 255 (m.invalidRun + 1) else m.invalidRun
        idleStrike := m.idleStrike }
    let sample : Sample := if s.samp.read.isSome = true then .invalid else .unread
    let climbing := s.weigh.phase = .accelerating
      ∨ (s.weigh.phase = .below ∧ s.spin.par.weighLow ≤ v)
    let started (g : Weigh) : Weigh := if g.phase = .below ∧ s.spin.par.weighLow ≤ v then
      { g with t1 := some ⟨b.time, v⟩, phase := .accelerating } else g
    let climbed (g : Weigh) : Weigh :=
      if (started g).phase = .accelerating ∧ s.spin.par.weighHigh ≤ v then
        { started g with t2 := some ⟨b.time, v⟩, phase := .steadying } else started g
    (∀ t x, s.rot.window = some t → s.rot.rev = some x →
      exec (.slotEdge w) s = .next (State.arbitrate { e with
        rot := timed { e.rot with
          window := none
          rev := some { x with
            paired := true
            slots := x.slots + 1
            samples := if x.slots < 32 then x.samples ++ [sample] else x.samples
            ramping := x.ramping || ramping
            filling := x.filling || filling } }
        samp := sampled s.samp (.slot x.slots)
          (if climbing then .accel else if s.weigh.phase = .holding then .hold else .nowhere)
        weigh := climbed s.weigh }))
    ∧ (s.rot.window = none → exec (.slotEdge w) s = .next (State.arbitrate { j with
        rot := timed { j.rot with
          pendingSlot := some ⟨⟨b.time, 200⟩, sample, none, ramping, filling, false⟩ }
        samp := sampled j.samp .pending (if climbing then .accel else .pending)
        weigh := climbed j.weigh }))

/-- R11, R15, R22, R131: the 48th slot edge since the last index edge, with the index-lost mark clear, discards
the revolution, the pending slot edge and the pairing window, sets the mark and the fallback, and is
reported in IDLE; it aborts a session with cause INDEX. -/
def Obligations.IndexLossDiscardsTheRevolution : Prop :=
  ∀ (w : Wait) (s : State), s.rot.sinceIndex = 47 → s.rot.indexLost = false →
    s.samp.read = none →
    ∃ t : State, exec (.slotEdge w) s = .next t.arbitrate
      ∧ t.rot.rev = none ∧ t.rot.pendingSlot = none ∧ t.rot.window = none
      ∧ t.rot.sinceIndex = 48 ∧ t.rot.indexLost = true ∧ t.rot.fallback = true
      ∧ t.rot.counter = s.rot.counter ∧ t.rot.stopped = false
      ∧ t.table = s.table ∧ t.trace = s.trace ∧ t.serv = s.serv
      ∧ (s.spin.state = .idle → s.cham.plannerInFlight = false → t.spin = s.spin ∧ t.est = s.est
        ∧ t.link = s.link.giveReport (.fault (.index s.rot.counter)))
      ∧ (s.spin.state.active = true ∨ s.spin.state = .winddown →
        t.spin.state = .aborting ∧ t.spin.closing = some .index ∧ t.spin.brk = true
        ∧ t.spin.den = false ∧ t.spin.demand = 0)
      ∧ (s.spin.state = .aborting → t.spin = s.spin)

/-- R18 to R22, R131: a read completes: a valid pair ends the run of invalid ones and is stored where its slot
edge stands; an invalid one is counted, the eighth in a row being a sensor fault; a pair above strike_limit
is also a strike. In IDLE the faults are reported (a strike once until the idle-strike mark clears),
outside it they abort the session; in ABORTING they change nothing more. A read whose slot edge stands nowhere marks no
revolution as struck (log 27); with no read in progress, or one not due, nothing happens (log 3). R18: x is taken from
SDI in cycles 9 to 20 and y in cycles 21 to 32, most significant bit first; in a read SCS is low and SDO carries 81h in
cycles 1 to 8; between reads SCS and SCK are high and SDO is low. Where the abort discards a weighing, the sample of a
conversion still in progress enters no sum (log 21). -/
def Obligations.ReadCompleteChecksThePair : Prop :=
  (∀ (w : Wait) (x y : BitVec 12) (r : ReadInProgress) (s : State),
    s.samp.read = some r → r.timer.due (s.begin w).time = true →
    let b := s.begin w
    let m := mag ⟨x.toInt, y.toInt⟩
    let strike := ∃ p, s.spin.params = some p ∧ p.strikeLimit < m
    let stored (v : Sample) (hit : Bool) : Rotation := match r.dest with
      | .pending => { s.rot with
          pendingSlot := s.rot.pendingSlot.map
            (fun q => { q with sample := v, struck := q.struck || hit }) }
      | .slot k => { s.rot with
          rev := s.rot.rev.map
            (fun q => { q with samples := q.samples.set k v, struck := q.struck || hit }) }
      | .nowhere => s.rot
    let good (hit : Bool) := (b.setRot (stored (.valid x.toInt y.toInt) hit)).setSamp
      { s.samp with read := none, invalidRun := 0 }
    let bad := (b.setRot (stored .invalid false)).setSamp
      { s.samp with read := none, invalidRun := min 255 (s.samp.invalidRun + 1) }
    let abort (z : State) (c : Cause) := (z.sessionClosed .aborting c false true).endedIfStopped
    let running := s.spin.state.active = true ∨ s.spin.state = .winddown
    let valid := x ≠ 0x800 ∧ y ≠ 0x800
    (valid → ¬ strike → exec (.readComplete w x y) s = .next (good false).arbitrate)
    ∧ (valid → strike → s.spin.state = .idle → s.samp.idleStrike = false →
      exec (.readComplete w x y) s = .next (giveReport
        (.fault (.strike s.rot.counter x.toInt y.toInt m))
        ((good true).setSamp
          { s.samp with read := none, invalidRun := 0, idleStrike := true })).arbitrate)
    ∧ (valid → strike → (s.spin.state = .idle ∧ s.samp.idleStrike = true
        ∨ s.spin.state = .aborting) →
      exec (.readComplete w x y) s = .next (good true).arbitrate)
    ∧ (valid → strike → running →
      exec (.readComplete w x y) s = .next (abort (good true) .strike).arbitrate)
    ∧ (¬ valid → (s.samp.invalidRun ≠ 7 ∨ s.spin.state = .aborting) →
      exec (.readComplete w x y) s = .next bad.arbitrate)
    ∧ (¬ valid → s.samp.invalidRun = 7 → s.spin.state = .idle →
      exec (.readComplete w x y) s =
        .next (giveReport (.fault (.sensor s.rot.counter 8)) bad).arbitrate)
    ∧ (¬ valid → s.samp.invalidRun = 7 → running →
      exec (.readComplete w x y) s = .next (abort bad .sensor).arbitrate))
  ∧ (∀ (w : Wait) (x y : BitVec 12) (s : State),
    (∀ r, s.samp.read = some r → r.timer.due (s.begin w).time = false) →
    exec (.readComplete w x y) s = .next (s.begin w).arbitrate)
  ∧ (∀ (line : Nat → Bool) (x y : BitVec 12),
    (∀ i, i < 12 → line (9 + i) = x.getLsbD (11 - i)) →
    (∀ i, i < 12 → line (21 + i) = y.getLsbD (11 - i)) →
    sdiPair line = if x = 0x800 ∨ y = 0x800 then .invalid else .valid x.toInt y.toInt)
  ∧ ∀ s : State,
    (s.samp.read = none → s.scs = true ∧ s.sck = some true ∧ ∀ n, s.sdo n = some false)
    ∧ (s.samp.read.isSome = true → s.scs = false
      ∧ (List.range 8).map (fun i => s.sdo (i + 1)) =
        [true, false, false, false, false, false, false, true].map some)

/-- R23, R50, R52: a conversion completes: its torque sample enters the acceleration sum, the hold sum, the
pending slot edge, or nothing, by what its slot edge was, whatever the phase is now; a full-scale sample sets the
saturated mark. A conversion that is not due does not complete (log 3). -/
def Obligations.ConversionCompleteSumsTheTorque : Prop :=
  ∀ (w : Wait) (code : BitVec 10) (c : Conversion) (s : State), s.samp.conv = some c →
    let b := s.begin w
    let t := (2 * (code.toNat * 20000) + 1023) / 2046
    let done := b.setSamp { s.samp with conv := none }
    (c.timer.due b.time = false → exec (.conversionComplete w code) s = .next b.arbitrate)
    ∧ (c.timer.due b.time = true → c.dest = .accel → exec (.conversionComplete w code) s =
      .next (done.setWeigh { s.weigh with
        accSum := s.weigh.accSum + t, nAcc := min 65535 (s.weigh.nAcc + 1)
        saturated := s.weigh.saturated || t == 20000 }).arbitrate)
    ∧ (c.timer.due b.time = true → c.dest = .hold → exec (.conversionComplete w code) s =
      .next (done.setWeigh { s.weigh with
        holdSum := s.weigh.holdSum + t, nHold := min 65535 (s.weigh.nHold + 1)
        saturated := s.weigh.saturated || t == 20000 }).arbitrate)
    ∧ (c.timer.due b.time = true → c.dest = .pending → exec (.conversionComplete w code) s =
      .next (done.setRot { s.rot with
        pendingSlot := s.rot.pendingSlot.map (fun q => { q with torque := some t }) }).arbitrate)
    ∧ (c.timer.due b.time = true → c.dest = .nowhere → exec (.conversionComplete w code) s =
      .next done.arbitrate)

/-- R16, R132, R138: standstill sets the stopped mark, makes both speeds 0, discards the revolution with its
pending slot edge and pairing window, and clears the run count; then the stopped event ends a session in
WINDDOWN or ABORTING, aborts one in an active state other than WEIGHING with cause DRIVE and so ends it,
and does nothing in IDLE and WEIGHING, where a hold keeps the sums it has (log 26). In BALANCING the order of the
lowered speed and the stopped event is open (log 10) and the fills are ended either way. A standstill timer that is
not due does nothing (log 3). -/
def Obligations.StandstillStopsTheBasket : Prop :=
  ∀ (w : Wait) (s : State),
    let b := s.begin w
    let still : State := { b with
      rot := { s.rot with
        rev := none, window := none, pendingSlot := none, stopped := true, speed := 0,
        slotSpeed := 0, fallback := true, standstill := none, lastEdge := none }
      samp :=
        { read := s.samp.read.map (fun r => { r with dest := .nowhere })
          conv := s.samp.conv.map
            (fun v => if v.dest = .pending then { v with dest := .nowhere } else v)
          invalidRun := 0, idleStrike := false } }
    let due := timerDue s.rot.standstill b.time
    (due = false → exec (.standstillExpiry w) s = .next b.arbitrate)
    ∧ (due = true → s.cham.plannerInFlight = false →
      (s.spin.state = .idle ∨ s.spin.state = .weighing) →
      exec (.standstillExpiry w) s = .next still.arbitrate)
    ∧ (due = true → s.cham.plannerInFlight = false →
      (s.spin.state = .winddown ∨ s.spin.state = .aborting) →
      exec (.standstillExpiry w) s = .next still.sessionEnded.arbitrate)
    ∧ (due = true → s.cham.plannerInFlight = false →
      (s.spin.state = .settling ∨ s.spin.state = .measuring ∨ s.spin.state.hasRamp = true) →
      exec (.standstillExpiry w) s =
        .next (still.sessionClosed .aborting .drive false true).sessionEnded.arbitrate)
    ∧ (due = true → s.spin.state = .balancing → s.cham.flight.isSome = true →
      ∃ t : State, exec (.standstillExpiry w) s = .next t.arbitrate
        ∧ t.spin.state = .idle ∧ t.spin.lastEnd = some .drive ∧ t.spin.den = false
        ∧ t.spin.brk = false ∧ t.spin.demand = 0
        ∧ t.cham.flight = none ∧ t.cham.queue = [] ∧ t.est.latest = none
        ∧ t.rot = still.rot ∧ t.table = s.table ∧ t.weigh = s.weigh ∧ t.serv = s.serv)

/-! ## Arithmetic -/

/-- R1, R2: a rounded quotient is the nearest integer, halves away from zero; a truncated one goes toward
zero, a floor toward minus infinity; a quantity that saturates or is clamped takes the bound it lies
beyond, and its own value otherwise. R3: mag adds three eighths of the smaller component, floored, to the larger one.
R4: the entries of the cosine table for k from 0 to 8, its two symmetries, and the sine of a slot. (How near mag comes
to the true length, and the table to the cosine, is not stated.) -/
def Obligations.RoundingAndSaturation : Prop :=
  (∀ (n : Int) (d : Nat), 0 < d → IsRounded (roundDiv n d) n d
    ∧ ∀ v : Int, IsRounded v n d → v = roundDiv n d)
  ∧ (∀ (n : Int) (d : Nat), 0 < d →
    (truncDiv n d * d).natAbs ≤ n.natAbs ∧ n.natAbs < (truncDiv n d * d).natAbs + d
    ∧ (0 ≤ n → 0 ≤ truncDiv n d) ∧ (n ≤ 0 → truncDiv n d ≤ 0))
  ∧ (∀ n d : Nat, 0 < d → n / d * d ≤ n ∧ n < (n / d + 1) * d)
  ∧ (∀ lo hi v : Int, lo ≤ hi →
    (v < lo → saturate lo hi v = lo) ∧ (hi < v → saturate lo hi v = hi)
    ∧ (lo ≤ v → v ≤ hi → saturate lo hi v = v))
  ∧ (∀ top n : Nat, n ≤ top → countUp top n = if n = top then top else n + 1)
  ∧ (∀ a b : Int, let x := max a (-a)
    let y := max b (-b)
    (mag ⟨a, b⟩ : Int) = max x y + 3 * min x y / 8)
  ∧ (List.range 9).map cos32 = [1024, 1004, 946, 851, 724, 569, 392, 200, 0]
  ∧ (∀ k, k ≤ 16 → cos32 (16 - k) = -cos32 k)
  ∧ (∀ k, 1 ≤ k → k ≤ 31 → cos32 (32 - k) = cos32 k)
  ∧ ∀ k, k ≤ 31 → sin32 k = cos32 ((k + 24) % 32)

/-- R27: the orbit vector and the DC offset of a record that is not irregular are the rounded quotients
of the rule's sums over its 32 pairs, and they and the sums keep the rule's bounds; an irregular record
has neither. -/
def Obligations.OrbitVectorOfARecord : Prop :=
  ∀ r : RevRecord,
    (r.irregular = true → r.orbitAndOffset = none)
    ∧ ∀ x y : Fin 32 → Int, r.irregular = false →
      r.samples = List.ofFn (fun k => Sample.valid (x k) (y k)) →
      (∀ k, (x k).natAbs ≤ 2047 ∧ (y k).natAbs ≤ 2047) →
      let sr := (List.ofFn (fun k : Fin 32 => x k * cos32 k + y k * sin32 k)).sum
      let si := (List.ofFn (fun k : Fin 32 => y k * cos32 k - x k * sin32 k)).sum
      ∃ c m : Pair, r.orbitAndOffset = some (c, m)
        ∧ IsRounded c.re sr 32768 ∧ IsRounded c.im si 32768
        ∧ IsRounded m.re (List.ofFn x).sum 32 ∧ IsRounded m.im (List.ofFn y).sum 32
        ∧ sr.natAbs ≤ 94849792 ∧ si.natAbs ≤ 94849792
        ∧ c.re.natAbs ≤ 2895 ∧ c.im.natAbs ≤ 2895 ∧ m.re.natAbs ≤ 2047 ∧ m.im.natAbs ≤ 2047
        ∧ ∀ k : Nat, k < 32 → (cos32 k).natAbs + (sin32 k).natAbs ≤ 1448

/-! ## Records and decisions -/

/-- R14, R29, R119 to R121, R124, R125: what a revolution record does by the spin state: nothing in
IDLE and the closing states; the ramp completion test, after the ramp watch on an upward ramp above
step 0; the count of settling; the watch in BALANCING, whose plan then ends STOPPED with the pre-fill record discarded
(R39, R40) and the STATE report of reason WATCH (R114). `excess` is R124's, `band` R119's. -/
def Obligations.RecordsBySpinState : Prop :=
  ∀ (s : State) (r : RevRecord),
    let p := s.spin
    let i := p.dest.getD 0
    let j := p.dwell.getD 0
    let band := r.wellTimed = true ∧ p.speedOf i * 49 ≤ r.speed * 50 ∧ r.speed * 50 ≤ p.speedOf i * 51
    let excess := ∃ c x, r.orbit = some c ∧ x < p.stepCount ∧ p.speedOf x ≤ r.speed
      ∧ (∀ y, x < y → y < p.stepCount → r.speed < p.speedOf y) ∧ p.limitOf x < mag c
    let moving := p.state = .ramping ∨ p.state = .retreating
    let watched := p.state = .ramping ∧ p.dir = some .up ∧ excess ∧ 0 < i
    let counted : State := s.setSpin
      { p with retreats := if p.retreats < p.par.maxRetreats then p.retreats + 1 else p.retreats }
    ((p.state = .idle ∨ p.state.isClosing = true) → s.takeRecord r = s)
    ∧ (watched → s.takeRecord r = counted.descending (p.dwellBelow i) .watch)
    ∧ (moving → ¬ watched → ¬ band → s.takeRecord r = s.setSpin { p with rampCount := 0 })
    ∧ (moving → ¬ watched → band → p.rampCount ≠ 1 →
      s.takeRecord r = s.setSpin { p with rampCount := p.rampCount + 1 })
    ∧ (moving → ¬ watched → band → p.rampCount = 1 → s.takeRecord r =
      giveReport
        (.state ⟨.settling, p.state, .arrived, some i, none, none, p.target, p.ceiling, p.demand⟩)
        (s.setSpin { p with
          state := .settling, dwell := some i, dest := none, dir := none, rampTimer := none
          rampCount := 2, settle := 0 }))
    ∧ (p.state = .settling → (r.irregular = true ∨ r.filling = true) → s.takeRecord r = s)
    ∧ (p.state = .settling → r.irregular = false → r.filling = false →
      s.takeRecord r =
        if p.settle + 1 = p.par.settleRevs then
          giveReport
            (.state ⟨.measuring, .settling, .settled, p.dwell, p.dest, p.dir, p.target, p.ceiling,
              p.demand⟩)
            (s.setSpin { p with state := .measuring, settle := p.settle + 1 })
        else s.setSpin { p with settle := p.settle + 1 })
    ∧ (p.state = .balancing → ¬ excess → s.takeRecord r = s)
    ∧ (p.state = .balancing → excess → 0 < j → p.retreats < p.par.maxRetreats →
      s.takeRecord r = counted.descending (p.dwellBelow j) .watch)
    ∧ (p.state = .balancing → excess → (j = 0 ∨ p.par.maxRetreats ≤ p.retreats) →
      s.takeRecord r = giveReport
        (.state ⟨.settling, .balancing, .watch, p.dwell, p.dest, p.dir, p.target, p.ceiling, p.demand⟩)
        ((s.endAll .stopped).setSpin { p with state := .settling, settle := 0 })
      ∧ ∀ f, s.cham.flight = some f → f.order.origin = .planner →
        (s.takeRecord r).est = { s.est with preFill := none })

/-- R29 to R31: a measuring record counts in m; one that is admitted joins the window; a full window is
handed to the decision event (DecisionTestsAndOutcomes says what that does) when its spread is within spread_limit, or
when m has reached 3 × W, marked unsteady; otherwise its oldest vector leaves. R30: the average is the rounded mean of
the W vectors, component by component, and the spread the largest magnitude of a vector's deviation from it. -/
def Obligations.MeasuringRecordFillsTheWindow : Prop :=
  ∀ (s : State) (r : RevRecord), s.spin.state = .measuring →
    let n := s.spin.par.windowRevs
    let m := min 255 (s.est.m + 1)
    let counted := s.setEst { s.est with m := m }
    let admitted := r.irregular = false ∧ r.ramping = false ∧ r.filling = false
    let win := s.est.window ++ [⟨r.number, orbitVector r.samples⟩]
    let joined := s.setEst { s.est with m := m, window := win }
    let a := windowAverage n (win.map (fun e => e.orbit))
    let spread := windowSpread a (win.map (fun e => e.orbit))
    (¬ admitted → s.takeRecord r = counted)
    ∧ (admitted → win.length < n → s.takeRecord r = joined)
    ∧ (admitted → n ≤ win.length → spread ≤ s.spin.par.spreadLimit →
      s.takeRecord r = joined.decisionEvent ⟨a, spread, true, r.number⟩)
    ∧ (admitted → n ≤ win.length → s.spin.par.spreadLimit < spread → m < 3 * n →
      s.takeRecord r = s.setEst { s.est with m := m, window := win.drop 1 })
    ∧ (admitted → n ≤ win.length → s.spin.par.spreadLimit < spread → 3 * n ≤ m →
      s.takeRecord r = joined.decisionEvent ⟨a, spread, false, r.number⟩)
    ∧ (win.length = n → IsRounded a.re (win.map (fun e => e.orbit.re)).sum n
      ∧ IsRounded a.im (win.map (fun e => e.orbit.im)).sum n)
    ∧ (∀ e ∈ win, mag ⟨e.orbit.re - a.re, e.orbit.im - a.im⟩ ≤ spread)
    ∧ ∃ e ∈ win, mag ⟨e.orbit.re - a.re, e.orbit.im - a.im⟩ = spread

/-- R101 to R104: the tests of a climb decision and of a goal decision in their order, with the code of the test
that decided (11.3); the worst margin is the largest, at the lowest step that has it, and the permit holds
exactly when it is 0 or less. R105, R106, R122, R98, R39, R108, R109, R114, R145, R158: what each outcome makes
of the session, whole: the spin state, the counters, the ceiling, the destination and demand, the window and the
pre-fill record, the first order of a plan in flight with its supply timer and the rest queued, and the CEILING,
REDISTRIBUTION and STATE reports in their order. An ADVANCE ramp takes its direction from the current speed (R118, where
R122's table says UP; log 36). R32, R100: at the
decision event the learning step runs first; then the coefficients of the decision's steps are looked up in increasing
order, the next dwell step being the lowest DWELL step above s and not above the goal; a lookup that ends the session
aborts it with cause TABLE and no report; otherwise the estimate is formed and kept as the latest one (R35 to R37), the
tests choose, the counters are counted, the DECISION report is given with the fields of R107, and the outcome follows.
(EstimateAndLearning says what learningStep, estimateU, estimateSize and prediction are, LookupByCase what lookups
does.) -/
def Obligations.DecisionTestsAndOutcomes : Prop :=
  ((∀ (s : State) (i d magA size : Nat) (u : Pair) (qs : List Prediction),
    let p := s.spin.par
    let tooLarge := s.spin.limitOf i < magA
    let gross := i = 0 ∧ p.redistThreshold < size
    let permit := ∀ q ∈ qs, q.p ≤ s.spin.limitOf q.step
    let again := s.spin.attempts < p.maxAttempts
    let planned := p.holdSpeed ≤ s.spin.speedOf i ∧ s.cham.balancer = true
      ∧ s.spin.plans < p.maxPlans ∧ s.plan u ≠ []
    let climb := s.climbChoice i d magA size u qs
    let goal := s.goalChoice i magA u
    let beyond := fun (c : Choice) => climb = ⟨c, 1⟩ ∧ goal = ⟨c, 7⟩
    (tooLarge → 0 < i → s.spin.retreats < p.maxRetreats → beyond .retreat)
    ∧ (tooLarge → 0 < i → p.maxRetreats ≤ s.spin.retreats → beyond .capRetreats)
    ∧ (tooLarge → i = 0 → again → beyond .redistribute)
    ∧ (tooLarge → i = 0 → ¬ again → beyond .unbalanced)
    ∧ (¬ tooLarge → gross → again → climb = ⟨.redistribute, 2⟩)
    ∧ (¬ tooLarge → gross → ¬ again → climb = ⟨.capHere, 2⟩)
    ∧ (¬ tooLarge → ¬ gross → permit → climb = ⟨.advance d, 3⟩)
    ∧ (¬ tooLarge → ¬ gross → ¬ permit → planned → climb = ⟨.balance (s.plan u), 4⟩)
    ∧ (¬ tooLarge → ¬ gross → ¬ permit → ¬ planned → s.spin.speedOf i < p.holdSpeed → again →
      climb = ⟨.redistribute, 5⟩)
    ∧ (¬ tooLarge → ¬ gross → ¬ permit → ¬ planned → (p.holdSpeed ≤ s.spin.speedOf i ∨ ¬ again) →
      climb = ⟨.capHere, 6⟩)
    ∧ (¬ tooLarge → s.spin.limitOf i * 3 / 4 < magA → planned → goal = ⟨.balance (s.plan u), 8⟩)
    ∧ (¬ tooLarge → (magA ≤ s.spin.limitOf i * 3 / 4 ∨ ¬ planned) → goal = ⟨.hold, 9⟩))
  ∧ ∀ (p : Spin) (qs : List Prediction), qs.Pairwise (fun a b => a.step < b.step) →
    (p.worstMargin qs = none ↔ qs = [])
    ∧ ∀ x m, p.worstMargin qs = some (x, m) →
      (m ≤ 0 ↔ ∀ q ∈ qs, q.p ≤ p.limitOf q.step)
      ∧ (∃ q ∈ qs, q.step = x ∧ (q.p : Int) - p.limitOf q.step = m)
      ∧ ∀ q ∈ qs, (q.p : Int) - p.limitOf q.step ≤ m
        ∧ ((q.p : Int) - p.limitOf q.step = m → x ≤ q.step))
  ∧ (∀ (s : State) (i size test : Nat) (a k : Pair), s.spin.state = .measuring →
    s.spin.dwell = some i →
    let p := s.spin
    let after := fun (c : Choice) => (s.setSpin (p.countOutcome c)).applyChoice i a k size ⟨c, test⟩
    let emptied : Estimator := { s.est with window := [], m := 0 }
    let j := p.dwellBelow i
    (∀ d,
      let dir : Dir := if s.rot.speed < p.speedOf d then .up else .down
      after (.advance d) = giveReport
        (.state ⟨.ramping, .measuring, .advance, p.dwell, some d, some dir, p.target, p.ceiling,
          p.speedOf d⟩)
        { s with
          spin := { p with
            state := .ramping, dest := some d, dir := some dir, demand := p.speedOf d, rampCount := 0
            rampTimer := some ⟨s.time, p.rampUs (p.speedOf d) s.rot.speed⟩, plans := 0 }
          est := { emptied with preFill := none } })
    ∧ (∀ o rest, s.cham.flight = none → s.cham.queue = [] →
      (∀ x ∈ o :: rest, 1 ≤ x.amount ∧ x.amount + s.cham.chambers[x.chamber].content ≤ 400) →
      (o :: rest).Pairwise (fun x y => x.chamber ≠ y.chamber) →
      after (.balance (o :: rest)) = giveReport
        (.state ⟨.balancing, .measuring, .balance, p.dwell, p.dest, p.dir, p.target, p.ceiling, p.demand⟩)
        { s with
          spin := { p with state := .balancing, plans := p.plans + 1 }
          est := { emptied with preFill := some ⟨i, a, k, Vector.replicate 4 0⟩ }
          cham := { s.cham with
            queue := rest
            flight := some ⟨o, s.cham.chambers[o.chamber].content, 0, 0⟩
            supplyTimer := some ⟨s.time, p.par.supplyTimeout * 1000⟩ } })
    ∧ after .hold = s.setEst emptied
    ∧ after .capHere = giveReport (.ceiling ⟨i, p.ceiling, .cap, p.dwell, p.target⟩)
        { s with
          spin := { p with
            ceiling := some i, demand := min p.demand (p.speedOf i), dest := p.dest.map (fun x => min x i) }
          est := emptied }
    ∧ after .retreat = (s.setSpin { p with retreats := p.retreats + 1 }).descending j .retreat
    ∧ after .capRetreats = (giveReport (.ceiling ⟨j, p.ceiling, .retreats, p.dwell, p.target⟩)
        (s.setSpin { p with ceiling := some j })).descending j .cap
    ∧ after .redistribute = ((giveReport
        (.redistribution ⟨p.attempts + 1, p.par.maxAttempts, i, test, size, mag a⟩)
        (s.setSpin { p with attempts := p.attempts + 1 })).sessionClosed .winddown .redistribute p.den
          p.brk).endedIfStopped
    ∧ after .unbalanced = (s.sessionClosed .winddown .unbalanced p.den p.brk).endedIfStopped)
  ∧ (∀ (s : State) (v : ReadyWindow) (c : Fin 4) (i goal ceiling : Nat), s.spin.state = .measuring →
    s.weigh.cls = some c → s.spin.dwell = some i → s.spin.goal = some goal →
    s.spin.ceiling = some ceiling →
    let p := s.spin
    let learnt := s.learningStep c v.avg
    let decided (x : State) (d : Option Nat) (k : Pair) (above : List StepK) : State :=
      let u := estimateU k v.avg
      let size := estimateSize u v.steady
      let qs := above.map (fun q => (⟨q.step, prediction size q.k⟩ : Prediction))
      let y := x.setEst { x.est with
        latest := some ⟨i, v.newest, p.par.windowRevs, v.steady, v.spread, v.avg, k, u, size,
          learnt.2, qs⟩ }
      let m := match d with
        | some d => y.climbChoice i d (mag v.avg) size u qs
        | none => y.goalChoice i (mag v.avg) u
      let q := p.countOutcome m.choice
      (giveReport
        (.decision
          { step := i, goal := goal, ceiling := ceiling, next := d
            outcome := match m.choice with
              | .advance _ => .advance
              | .balance _ => .balance
              | .retreat => .retreat
              | .capHere => .cap
              | .capRetreats => .cap
              | .redistribute => .redistribute
              | .hold => .hold
              | .unbalanced => .unbalanced
            test := m.test, steady := v.steady, avg := v.avg, magA := mag v.avg
            limit := p.limitOf i, u := u, size := size, worst := p.worstMargin qs
            attempts := q.attempts, retreats := q.retreats, plans := q.plans
            orders := match m.choice with
              | .balance os => os.length
              | _ => 0 })
        (y.setSpin q)).applyChoice i v.avg k size m
    (∀ d k above x, i < d → d ≤ goal → p.isDwell d = true →
      (∀ z, i < z → z < d → p.isDwell z = false) →
      learnt.1.lookups c ((List.range (d + 1 - i)).map (fun z => z + i)) = (x, some (⟨i, k⟩ :: above)) →
      s.decisionEvent v = decided x (some d) k above)
    ∧ (∀ d x, i < d → d ≤ goal → p.isDwell d = true → (∀ z, i < z → z < d → p.isDwell z = false) →
      learnt.1.lookups c ((List.range (d + 1 - i)).map (fun z => z + i)) = (x, none) →
      s.decisionEvent v = (x.sessionClosed .aborting .table false true).endedIfStopped)
    ∧ (∀ k x, goal ≤ i → learnt.1.lookups c [i] = (x, some [⟨i, k⟩]) →
      s.decisionEvent v = decided x none k [])
    ∧ (∀ x, goal ≤ i → learnt.1.lookups c [i] = (x, none) →
      s.decisionEvent v = (x.sessionClosed .aborting .table false true).endedIfStopped))

/-- R105, R117: RAMPING is entered in two ways only: from WEIGHING, upward to step 0, and from MEASURING
by a decision at the dwell step below the destination, whose own excursion was within the limit and whose
prediction at every step up to the destination was within that step's limit. -/
def Obligations.ClimbNeedsAPermit : Prop :=
  ∀ s t : State, s.SessionOk → s.ProfileOk → s.spin.CourseOk → step s = .next t →
    s.spin.state ≠ .ramping → t.spin.state = .ramping →
    (s.spin.state = .weighing ∧ t.spin.dest = some 0 ∧ t.spin.dir = some .up)
    ∨ (s.spin.state = .measuring ∧ ∃ i d g e,
        s.spin.dwell = some i ∧ t.spin.dest = some d ∧ s.spin.goal = some g
        ∧ t.est.latest = some e ∧ e.step = i ∧ i < d ∧ d ≤ g ∧ s.spin.isDwell d = true
        ∧ (∀ x, i < x → x < d → s.spin.isDwell x = false)
        ∧ mag e.avg ≤ s.spin.limitOf i
        ∧ e.predictions.map (fun q => q.step) = (List.range (d - i)).map (fun x => i + 1 + x)
        ∧ ∀ q ∈ e.predictions, q.p ≤ s.spin.limitOf q.step)

/-- R35, R46: the estimate's components are the rounded quotients of the rule saturated at ±8000; its size is their
magnitude, padded by a quarter, truncated, when the window is unsteady, and 13,750 at most. R36: a prediction is the
nearest tu to the exact quotient, capped at 65,535; for a coefficient of magnitude 0 it is within the cap and otherwise
open (log 39). R42: the learning step's change of imbalance is the delivered water
in the ring's frame rotated by ring_offset slots, each component rounded, and its orbit change the difference of the two
averages. R43: the measured coefficient, the blended one, and the tests in their order; an accepted coefficient lies
between the old and the measured one and has magnitude 16 or more. R32, R44, R82 to R85: with no pre-fill record nothing
is learned; otherwise the record is used up, the outcome discarded under a force mark that covers its step or a pending
flush, and otherwise reported and, when accepted, stored in its slot with the session's class and a check that agrees,
its mark set in the active set. -/
def Obligations.EstimateAndLearning : Prop :=
  ((∀ (k a : Pair) (steady : Bool), ∃ x y : Int,
    IsRounded x (k.re * a.re - k.im * a.im) 1024 ∧ IsRounded y (k.re * a.im + k.im * a.re) 1024 ∧
    let u := estimateU k a
    let size := estimateSize u steady
    u = ⟨max (-8000) (min 8000 x), max (-8000) (min 8000 y)⟩
    ∧ (steady = true → size = mag u)
    ∧ (steady = false → 4 * size ≤ mag u * 5 ∧ mag u * 5 < 4 * (size + 1))
    ∧ size ≤ 13750)
  ∧ (∀ (size : Nat) (k : Pair), prediction size k ≤ 65535 ∧ (0 < mag k → ∃ q : Nat,
    2 * (q * mag k) ≤ 2 * (size * 1024) + mag k ∧ 2 * (size * 1024) < 2 * (q * mag k) + mag k
    ∧ prediction size k = min 65535 q)))
  ∧ (∀ (p : Params) (pre : PreFill) (a : Pair), ∃ x y : Int,
    let d := pre.delivered
    let er := (d[0] : Int) - d[2]
    let ei := (d[1] : Int) - d[3]
    let n := p.ringOffset
    IsRounded x (er * cos32 n - ei * sin32 n) 1024 ∧ IsRounded y (er * sin32 n + ei * cos32 n) 1024
    ∧ learn p pre a = learnFrom pre.step p.noiseFloor pre.kOld ⟨x, y⟩
        ⟨a.re - pre.avg.re, a.im - pre.avg.im⟩)
  ∧ (∀ (du d kOld kMeas : Pair),
    let dd := d.re.natAbs * d.re.natAbs + d.im.natAbs * d.im.natAbs
    let fit (v : Int) := max (-32768) (min 32767 v)
    (0 < dd → ∃ x y : Int, IsRounded x ((du.re * d.re + du.im * d.im) * 1024) dd
      ∧ IsRounded y ((du.im * d.re - du.re * d.im) * 1024) dd ∧ measuredK du d = ⟨fit x, fit y⟩)
    ∧ blendedK kOld kMeas = ⟨fit (kOld.re + (kMeas.re - kOld.re).tdiv 4),
        fit (kOld.im + (kMeas.im - kOld.im).tdiv 4)⟩)
  ∧ (∀ (i floor : Nat) (kOld du d : Pair),
    let o := learnFrom i floor kOld du d
    let dd := d.re.natAbs * d.re.natAbs + d.im.natAbs * d.im.natAbs
    let km := measuredK du d
    let far := mag km < mag kOld / 4 ∨ 4 * mag kOld < mag km
    (dd < floor * floor → o = ⟨i, .displacement, kOld, none, none, du, d⟩)
    ∧ (floor * floor ≤ dd → mag du < 20 → o = ⟨i, .delivery, kOld, none, none, du, d⟩)
    ∧ (floor * floor ≤ dd → 20 ≤ mag du → far → o = ⟨i, .ratio, kOld, some km, none, du, d⟩)
    ∧ (floor * floor ≤ dd → 20 ≤ mag du → ¬ far → mag (blendedK kOld km) < 16 →
      o = ⟨i, .magnitude, kOld, some km, none, du, d⟩)
    ∧ (floor * floor ≤ dd → 20 ≤ mag du → ¬ far → 16 ≤ mag (blendedK kOld km) →
      o = ⟨i, .accepted, kOld, some km, some (blendedK kOld km), du, d⟩)
    ∧ ((-32768 ≤ kOld.re ∧ kOld.re ≤ 32767) → -32768 ≤ km.re ∧ km.re ≤ 32767
      ∧ min kOld.re km.re ≤ (blendedK kOld km).re ∧ (blendedK kOld km).re ≤ max kOld.re km.re)
    ∧ ((-32768 ≤ kOld.im ∧ kOld.im ≤ 32767) → -32768 ≤ km.im ∧ km.im ≤ 32767
      ∧ min kOld.im km.im ≤ (blendedK kOld km).im ∧ (blendedK kOld km).im ≤ max kOld.im km.im))
  ∧ (∀ (s : State) (c : Fin 4) (a : Pair), s.est.preFill = none → s.learningStep c a = (s, .none))
  ∧ (∀ (s : State) (c : Fin 4) (a : Pair) (pre : PreFill) (i : Fin 12), s.est.preFill = some pre →
    pre.step = i.val →
    let o := learn s.spin.par pre a
    let used := s.setEst { s.est with preFill := none }
    let learned : Learned := if o.result = .accepted then .accepted else .rejected
    let mark := if s.spin.speedOf i < s.spin.par.holdSpeed then s.serv.forceLow else s.serv.forceHigh
    let discarded := mark = true ∨ s.table.flush.isPending = true
    (o.result = .accepted ↔ o.kNew.isSome = true)
    ∧ (discarded → s.learningStep c a = (used, learned))
    ∧ (¬ discarded → o.kNew = none →
      s.learningStep c a = (giveReport (.learned ⟨c, o⟩) used, learned))
    ∧ (∀ k, ¬ discarded → o.kNew = some k → s.learningStep c a =
      (giveReport (.learned ⟨c, o⟩) (used.setTable { s.table with
        slots := s.table.slots.set i ⟨c, k, Config.checkValue c k⟩
        marksA := if s.table.active = .a then s.table.marksA.set i true else s.table.marksA
        marksB := if s.table.active = .b then s.table.marksB.set i true else s.table.marksB }),
        learned)))

/-! ## The Influence Table's lookups and the fill planner -/

/-- R67 to R76: a lookup by the first case that applies: the coefficient it returns, the slot it writes, the
history entry it adds, the report it gives. R75, R100: the lookups of a decision are made one at a time in the order
given, each in the state the one before left, and none after one that ends the session. -/
def Obligations.LookupByCase : Prop :=
  (∀ (s : State) (i : Fin 12) (c : Fin 4),
    let t := s.table
    let sl := t.slots[i]
    let e := t.baseline[i][c]
    let set := match t.active with
      | .a => t.marksA
      | .b => t.marksB
    let mark := if s.spin.speedOf i < s.spin.par.holdSpeed then s.serv.forceLow else s.serv.forceHigh
    let bypass := mark = true ∨ t.flush.isPending = true
    let reached := ¬ bypass ∧ set[i] = true ∧ sl.tag = c
    let agrees := sl.check = Config.checkValue sl.tag sl.k
    let response := s.spin.par.errorResponse
    let noted (h : Hit) := s.setTable { t with history := (⟨i.val, h⟩ :: t.history).take 6 }
    let written (h : Hit) := s.setTable { t with
      history := (⟨i.val, h⟩ :: t.history).take 6
      slots := t.slots.set i ⟨c, e, Config.checkValue c e⟩
      marksA := if t.active = .a then t.marksA.set i true else t.marksA
      marksB := if t.active = .b then t.marksB.set i true else t.marksB }
    (bypass → s.lookup i c = (noted .miss, some e))
    ∧ (reached → agrees → s.lookup i c = (noted .hit, some sl.k))
    ∧ (reached → ¬ agrees → response = 0 → s.lookup i c = (written .error, some e))
    ∧ (reached → ¬ agrees → response = 1 →
      s.lookup i c = (giveReport (.tableError ⟨i, c, 1, sl.k, some e⟩) (written .error), some e))
    ∧ (reached → ¬ agrees → 2 ≤ response →
      s.lookup i c = (giveReport (.tableError ⟨i, c, 2, sl.k, none⟩) (noted .error), none))
    ∧ (¬ bypass → (set[i] = false ∨ sl.tag ≠ c) → s.lookup i c = (written .miss, some e))
    ∧ ∀ u k, ¬ bypass → s.lookup i c = (u, some k) → (u.lookup i c).2 = some k
      ∧ (u.lookup i c).1.table.history.head? = some ⟨i.val, .hit⟩)
  ∧ ∀ (s : State) (c : Fin 4), s.lookups c [] = (s, some [])
    ∧ ∀ i rest t,
      (s.lookup i c = (t, none) → s.lookups c (i :: rest) = (t, none))
      ∧ ∀ k u, s.lookup i c = (t, some k) →
        (t.lookups c rest = (u, none) → s.lookups c (i :: rest) = (u, none))
        ∧ ∀ ks, t.lookups c rest = (u, some ks) → s.lookups c (i :: rest) = (u, some (⟨i, k⟩ :: ks))

/-- R157, R158: the raw amounts are the components of −U rotated by −ring_offset slots, each rounded and its positive
or negative part taken for its chamber; each is clamped to the room, 0 for a BLEEDING chamber, and all are scaled,
truncated, to plan_limit when their sum exceeds it; those of min_fill or more, and above 0, become the orders of origin
PLANNER, in decreasing order of amount with the lower chamber first among equals. There are at most two, together
plan_limit or less, and each fits the room. -/
def Obligations.PlanKeepsItsLimits : Prop :=
  ∀ (s : State) (u : Pair),
    let p := s.spin.par
    let os := s.plan u
    let co := cos32 p.ringOffset
    let si := sin32 p.ringOffset
    os.length ≤ 2
    ∧ (os.map (fun o => o.amount)).sum ≤ p.planLimit
    ∧ os.Pairwise (fun a b => a.chamber ≠ b.chamber
      ∧ (b.amount < a.amount ∨ (b.amount = a.amount ∧ a.chamber < b.chamber)))
    ∧ (∀ o ∈ os, o.origin = .planner ∧ p.minFill ≤ o.amount ∧ 1 ≤ o.amount
      ∧ o.amount + s.cham.chambers[o.chamber].content ≤ 400
      ∧ s.chamberState o.chamber ≠ .bleeding)
    ∧ ∃ x y : Int, IsRounded x (-u.re * co - u.im * si) 1024 ∧ IsRounded y (u.re * si - u.im * co) 1024 ∧
      let room (c : Fin 4) := if s.chamberState c = .bleeding then 0
        else 400 - s.cham.chambers[c].content
      let f (c : Fin 4) : Nat := min (room c)
        (if c = 0 then x.toNat else if c = 1 then y.toNat else if c = 2 then (-x).toNat else (-y).toNat)
      let sum := f 0 + f 1 + f 2 + f 3
      let g (c : Fin 4) := if p.planLimit < sum then f c * p.planLimit / sum else f c
      ∀ (c : Fin 4) (a : Nat), (⟨c, a, .planner⟩ : Order) ∈ os ↔ a = g c ∧ p.minFill ≤ a ∧ 0 < a

/-! ## Weighing -/

/-- R51 to R55: the count of stable revolutions, the hold and its end, and at completion the first failing
test or the class of the load inertia. R57, R117, R118: a record taken in WEIGHING by which the hold revolution count
comes to 4 completes the weighing: the result is stored with the phase OFF and the limit stopped, the WEIGHED report is
given with its fields, and the UP ramp to step 0 starts with reason WEIGHED; any other record changes the weighing
alone. R50: a conversion in progress is left to the sum of its slot edge. -/
def Obligations.WeighingHoldAndClass : Prop :=
  (∀ (p : Params) (w : Weigh) (r : RevRecord),
    let stable := r.wellTimed = true ∧ p.weighHigh * 49 ≤ r.speed * 50
      ∧ r.speed * 50 ≤ p.weighHigh * 51
    let t := w.takeRecord p r
    let v1 := (w.t1.map (fun e => e.speed)).getD 0
    let v2 := (w.t2.map (fun e => e.speed)).getD 0
    let dt := w.dt.getD 0
    let tA := w.accSum / w.nAcc
    let tH := w.holdSum / w.nHold
    let full := w.saturated = true
    let empty := w.nAcc = 0 ∨ w.nHold = 0
    let slow := v2 ≤ v1
    let off := dt < 200 ∨ 10000 < dt
    let done := w.complete p
    (w.phase = .steadying → stable → w.stable ≠ 1 → t = { w with stable := w.stable + 1 })
    ∧ (w.phase = .steadying → stable → w.stable = 1 →
      t = { w with stable := 2, phase := .holding, holdSum := 0, nHold := 0, holdRevs := 0 })
    ∧ (w.phase = .steadying → ¬ stable → t = { w with stable := 0 })
    ∧ (w.phase = .holding → stable → t = { w with holdRevs := w.holdRevs + 1 })
    ∧ (w.phase = .holding → ¬ stable →
      t = { w with phase := .steadying, stable := 0, holdSum := 0, nHold := 0, holdRevs := 0 })
    ∧ (full → done.1.result = .failed .saturated)
    ∧ (¬ full → empty → done.1.result = .failed .torque)
    ∧ (¬ full → ¬ empty → slow → done.1.result = .failed .speed)
    ∧ (¬ full → ¬ empty → ¬ slow → off → done.1.result = .failed .time)
    ∧ (¬ full → ¬ empty → ¬ slow → ¬ off → tA ≤ tH → done.1.result = .failed .torque)
    ∧ (¬ full → ¬ empty → ¬ slow → ¬ off → tH < tA →
      ∃ c : Fin 4, done.1.result =
          .weighed c ((tA - tH) * dt * 626 / (65536 * (v2 - v1)) - p.basketInertia)
        ∧ (p.threshold1 < p.threshold2 → p.threshold2 < p.threshold3 →
          let load := (tA - tH) * dt * 626 / (65536 * (v2 - v1)) - p.basketInertia
          (c = 0 ↔ load < p.threshold1)
          ∧ (c = 1 ↔ p.threshold1 ≤ load ∧ load < p.threshold2)
          ∧ (c = 2 ↔ p.threshold2 ≤ load ∧ load < p.threshold3)
          ∧ (c = 3 ↔ p.threshold3 ≤ load)))
    ∧ done.1 = { w with phase := .off, limit := none, result := done.1.result }
    ∧ done.2 =
      { cls := match done.1.result with
          | .weighed c _ => c
          | _ => 3
        fail := match done.1.result with
          | .failed why => some why
          | _ => none
        inertiaJ := match done.1.result with
          | .weighed _ load => some (load, (tA - tH) * dt * 626 / (65536 * (v2 - v1)))
          | _ => none
        acc := if w.t1.isSome = true ∧ w.nAcc ≠ 0 then some ⟨tA, w.nAcc⟩ else none
        hold := if w.nHold ≠ 0 then some ⟨tH, w.nHold⟩ else none
        dt := w.t1.bind (fun e => w.t2.map (fun e' => (e'.stamp - e.stamp).toNat / 1000))
        w1 := w.t1.map ClimbEdge.speed
        w2 := w.t2.map ClimbEdge.speed })
  ∧ ∀ (s : State) (r : RevRecord), s.spin.state = .weighing →
    let p := s.spin
    let w := s.weigh.takeRecord p.par r
    let done := w.complete p.par
    (¬ (w.phase = .holding ∧ w.holdRevs = 4) → s.takeRecord r = s.setWeigh w)
    ∧ (w.phase = .holding → w.holdRevs = 4 → s.takeRecord r =
      giveReport
        (.state ⟨.ramping, .weighing, .weighed, p.dwell, some 0, some .up, p.target, p.ceiling,
          p.speedOf 0⟩)
        (giveReport (.weighed done.2)
          { s with
            weigh := done.1
            spin := { p with
              state := .ramping, dest := some 0, dir := some .up, demand := p.speedOf 0, rampCount := 0
              plans := 0, rampTimer := some ⟨s.time, p.rampUs (p.speedOf 0) s.rot.speed⟩ }
            est := { s.est with window := [], m := 0, preFill := none } }))

/-! ## The trace -/

/-- R180, R181: a revolution closed outside IDLE makes one trace record with the estimator's values, which
enters as the newest with the gap count when the enable is ON and there is room, and otherwise is discarded
and counted. -/
def Obligations.TraceRecordsEnterOrAreCounted : Prop :=
  ∀ (s : State) (r : RevRecord),
    let q := s.trace
    let c := if r.irregular = true then none else some (orbitVector r.samples, dcOffset r.samples)
    let made : TraceRecord := ⟨r.number, s.spin.dwell, s.spin.state, r.speed, c, r.peak, r.slots,
      r.irregular, r.ramping, r.filling, q.gap⟩
    (s.spin.state = .idle → s.traceRevolution r = s)
    ∧ (s.spin.state ≠ .idle → q.enable = true → q.queue.length < 32 →
      s.traceRevolution r = s.setTrace { q with queue := q.queue ++ [made], gap := 0 })
    ∧ (s.spin.state ≠ .idle → (q.enable = false ∨ 32 ≤ q.queue.length) →
      s.traceRevolution r = s.setTrace { q with gap := min 255 (q.gap + 1) })

/-- R197, 11.7: a trace record's octets, read back: both forms give the revolution number, the dwell step (Fh when
absent), the speed, the spin state, the irregular flag, the peak, the gap, and whether the revolution was ramping and
filling; the regular form of 15 octets gives C and the DC offset, each of its components saturated at ±511; the
irregular form of 10 octets gives the slot count and neither; n regular records are 15 n octets; a pushed record is a
frame of kind 90h with tag 0. -/
def Obligations.TraceRecordForms : Prop :=
  ∀ r : TraceRecord,
    let at' (i : Nat) : Nat := (r.octets.getD i 0).toNat
    let field := ((at' 9 * 256 + at' 10) * 256 + at' 11) * 16777216
      + (at' 12 * 256 + at' 13) * 256 + at' 14
    let signed (n v : Nat) : Int := if v < 2 ^ (n - 1) then (v : Int) else (v : Int) - 2 ^ n
    (r.irregular = false → r.octets.length = 15 ∧ r.frame.lengthOctet = 17)
    ∧ (r.irregular = true → r.octets.length = 10 ∧ r.frame.lengthOctet = 12
      ∧ (r.slots < 64 → at' 9 % 64 = r.slots))
    ∧ r.frame.kind = 0x90 ∧ r.frame.tag = 0 ∧ r.frame.body = r.octets
    ∧ ((at' 0 * 256 + at' 1) * 256 + at' 2) * 256 + at' 3 = r.number.toNat
    ∧ ((∀ d ∈ r.dwell, d ≤ 11) → r.speed ≤ 4000 →
      at' 4 / 16 = r.dwell.getD 15 ∧ at' 4 % 16 * 256 + at' 5 = r.speed)
    ∧ (r.state ≠ .idle → r.peak < 4096 →
      at' 6 / 32 = (match r.state with
        | .weighing => 0 | .ramping => 1 | .settling => 2 | .measuring => 3 | .balancing => 4
        | .retreating => 5 | .winddown => 6 | .aborting => 7 | .idle => 8)
      ∧ (at' 6 / 16 % 2 = 1 ↔ r.irregular = true) ∧ at' 6 % 16 * 256 + at' 7 = r.peak)
    ∧ (r.gap ≤ 255 → at' 8 = r.gap)
    ∧ (r.irregular = true → r.slots < 64 →
      (at' 9 / 128 = 1 ↔ r.ramping = true) ∧ (at' 9 / 64 % 2 = 1 ↔ r.filling = true))
    ∧ (r.irregular = false →
      (at' 9 / 128 = 1 ↔ r.ramping = true) ∧ (at' 9 / 64 % 2 = 1 ↔ r.filling = true))
    ∧ (∀ c m : Pair, r.irregular = false → r.orbit = some (c, m) →
      c.re.natAbs ≤ 2895 → c.im.natAbs ≤ 2895 →
      signed 13 (field / 2 ^ 33 % 2 ^ 13) = c.re ∧ signed 13 (field / 2 ^ 20 % 2 ^ 13) = c.im
      ∧ signed 10 (field / 2 ^ 10 % 2 ^ 10) = max (-511) (min 511 m.re)
      ∧ signed 10 (field % 2 ^ 10) = max (-511) (min 511 m.im))
    ∧ ∀ rs : List TraceRecord, (∀ x ∈ rs, x.irregular = false) →
      (traceOctets rs).length = 15 * rs.length

/-- R182: the three marks from the number held and the settings, in any state and in the replies that carry
them; with settings of 15 or less NEAR_EMPTY and NEAR_FULL never stand together, and HALF stands with
NEAR_FULL. -/
def Obligations.QueueMarks : Prop :=
  ∀ s : State,
    let q := s.trace
    let held := q.queue.length
    let marks (t : TraceQueue) : Octet :=
      flagOctet [t.queue.length ≤ t.n, 32 - t.m ≤ t.queue.length, 16 < t.queue.length]
    (q.nearEmpty = true ↔ held ≤ q.n) ∧ (q.nearFull = true ↔ 32 - q.m ≤ held)
    ∧ (q.half = true ↔ 16 < held)
    ∧ (q.n ≤ 15 → q.m ≤ 15 → ¬ (q.nearEmpty = true ∧ q.nearFull = true)
      ∧ (q.nearFull = true → q.half = true))
    ∧ (q.n = 0 → (q.nearEmpty = true ↔ q.queue = []))
    ∧ (q.m = 0 → held ≤ 32 → (q.nearFull = true ↔ held = 32))
    ∧ (let page := (s.answer .status [3]).fields.drop (s.statusHead 3).length
      page.getD 0 0 = u8 held ∧ page.getD 4 0 = marks q)
    ∧ (∀ body, (s.answer .readTrace body).result = .ok →
      let a := s.answer .readTrace body
      a.fields.getD 1 0 = u8 a.state.trace.queue.length ∧ a.fields.getD 2 0 = marks a.state.trace)
    ∧ ∀ body, (s.answer .setTrace body).result = .ok →
      let a := s.answer .setTrace body
      a.fields.getD 3 0 = u8 a.state.trace.queue.length ∧ a.fields.getD 4 0 = marks a.state.trace

end Slice0Statements
end

