-- ==== Sys2Proof/Laws/Arith.lean ====
section
/-! SUPPORT. Facts of the manual's arithmetic: saturation and counts stay in their bounds, rounding is to the nearest, the
size of a pair lies between its larger component and 11/8 of it, and the octets of a field give back its value. -/

namespace Sys2Proof.Machine

theorem countUp_le (top n : Nat) : countUp top n ≤ top := Nat.min_le_left _ _

theorem countUp_of_lt {top n : Nat} (h : n < top) : countUp top n = n + 1 := Nat.min_eq_right h

theorem countUp_pos {top n : Nat} (h : 0 < top) : 0 < countUp top n := by
  simp only [countUp]; omega

theorem saturate_mem {lo hi : Int} (h : lo ≤ hi) (v : Int) :
    lo ≤ saturate lo hi v ∧ saturate lo hi v ≤ hi := by
  unfold saturate
  split
  · omega
  · split <;> omega

theorem saturate_of_mem {lo hi v : Int} (h1 : lo ≤ v) (h2 : v ≤ hi) : saturate lo hi v = v := by
  unfold saturate; rw [if_neg (by omega), if_neg (by omega)]

/-- R1: the rounded quotient is within half of the exact one, and a half is rounded up. -/
theorem roundDivNat_spec (n : Nat) {d : Nat} (h : 0 < d) :
    2 * d * roundDivNat n d ≤ 2 * n + d ∧ 2 * n + d < 2 * d * (roundDivNat n d + 1) := by
  have h2 : 0 < 2 * d := by omega
  exact ⟨by simpa [roundDivNat] using Nat.mul_div_le (2 * n + d) (2 * d),
    by simpa [roundDivNat] using Nat.lt_mul_div_succ (2 * n + d) h2⟩

theorem roundDiv_neg (n : Int) (d : Nat) : roundDiv (-n) d = -roundDiv n d := by
  unfold roundDiv
  rcases Int.lt_trichotomy n 0 with h | h | h
  · rw [if_pos (by omega), if_neg (by omega), Int.natAbs_neg, Int.neg_neg]
  · subst h
    have hz : roundDivNat 0 d = 0 := by
      rcases Nat.eq_zero_or_pos d with rfl | hd
      · rfl
      · exact Nat.div_eq_of_lt (by omega)
    simp [hz]
  · rw [if_neg (by omega), if_pos (by omega), Int.natAbs_neg]

theorem mag_ge_re (p : Pair) : p.re.natAbs ≤ mag p := by
  simp only [mag]; omega

theorem mag_ge_im (p : Pair) : p.im.natAbs ≤ mag p := by
  simp only [mag]; omega

/-- R3: the size is at most 11/8 of the larger component. -/
theorem mag_le (p : Pair) : 8 * mag p ≤ 11 * max p.re.natAbs p.im.natAbs := by
  simp only [mag]; omega

/-! ## Octets -/

@[simp] theorem u16_length (n : Nat) : (u16 n).length = 2 := rfl
@[simp] theorem u32_length (n : Nat) : (u32 n).length = 4 := rfl
@[simp] theorem i16_length (v : Int) : (i16 v).length = 2 := rfl
@[simp] theorem pair16_length (p : Pair) : (pair16 p).length = 4 := rfl

/-- R196: a two-octet field, high octet first, gives back its value. -/
theorem val16_u8 {n : Nat} (h : n < 65536) : val16 (u8 (n / 256)) (u8 n) = n := by
  simp only [val16, u8, BitVec.toNat_ofNat]; omega

/-- R196: a two-octet signed field gives back its value. -/
theorem sval16_i16 {v : Int} (h1 : -32768 ≤ v) (h2 : v ≤ 32767) :
    sval16 (u8 ((BitVec.ofInt 16 v).toNat / 256)) (u8 (BitVec.ofInt 16 v).toNat) = v := by
  rw [sval16, val16_u8 (BitVec.isLt _), BitVec.ofNat_toNat, BitVec.setWidth_eq,
    BitVec.toInt_ofInt]
  simp only [Int.bmod]; omega

/-! ## The CRC -/

theorem crc_append (a b : List Octet) : crc (a ++ b) = b.foldl crcOctet (crc a) := by
  simp [crc, List.foldl_append]

@[simp] theorem crcOctets_length (l : List Octet) : (crcOctets l).length = 2 := rfl

end Sys2Proof.Machine
end

