-- ==== Sys2Proof/Laws/State.lean ====
section
/-! SUPPORT. The fields of State after each named update: one lemma per field per update. -/

namespace Sys2Proof.Machine

variable (s : State)

/-! ### setTime -/

@[simp] theorem State.setTime_time (v : Stamp) : (s.setTime v).time = v := rfl
@[simp] theorem State.setTime_pins (v : Stamp) : (s.setTime v).pins = s.pins := rfl
@[simp] theorem State.setTime_rot (v : Stamp) : (s.setTime v).rot = s.rot := rfl
@[simp] theorem State.setTime_samp (v : Stamp) : (s.setTime v).samp = s.samp := rfl
@[simp] theorem State.setTime_est (v : Stamp) : (s.setTime v).est = s.est := rfl
@[simp] theorem State.setTime_weigh (v : Stamp) : (s.setTime v).weigh = s.weigh := rfl
@[simp] theorem State.setTime_table (v : Stamp) : (s.setTime v).table = s.table := rfl
@[simp] theorem State.setTime_spin (v : Stamp) : (s.setTime v).spin = s.spin := rfl
@[simp] theorem State.setTime_cham (v : Stamp) : (s.setTime v).cham = s.cham := rfl
@[simp] theorem State.setTime_trace (v : Stamp) : (s.setTime v).trace = s.trace := rfl
@[simp] theorem State.setTime_link (v : Stamp) : (s.setTime v).link = s.link := rfl
@[simp] theorem State.setTime_serv (v : Stamp) : (s.setTime v).serv = s.serv := rfl
@[simp] theorem State.setTime_draw (v : Stamp) : (s.setTime v).draw = s.draw := rfl
@[simp] theorem State.setTime_pending (v : Stamp) : (s.setTime v).pending = s.pending := rfl
@[simp] theorem State.setTime_setTime (v v' : Stamp) :
    (s.setTime v).setTime v' = s.setTime v' := rfl
@[simp] theorem State.setTime_self : s.setTime s.time = s := rfl

/-! ### setPins -/

@[simp] theorem State.setPins_time (v : Pins) : (s.setPins v).time = s.time := rfl
@[simp] theorem State.setPins_pins (v : Pins) : (s.setPins v).pins = v := rfl
@[simp] theorem State.setPins_rot (v : Pins) : (s.setPins v).rot = s.rot := rfl
@[simp] theorem State.setPins_samp (v : Pins) : (s.setPins v).samp = s.samp := rfl
@[simp] theorem State.setPins_est (v : Pins) : (s.setPins v).est = s.est := rfl
@[simp] theorem State.setPins_weigh (v : Pins) : (s.setPins v).weigh = s.weigh := rfl
@[simp] theorem State.setPins_table (v : Pins) : (s.setPins v).table = s.table := rfl
@[simp] theorem State.setPins_spin (v : Pins) : (s.setPins v).spin = s.spin := rfl
@[simp] theorem State.setPins_cham (v : Pins) : (s.setPins v).cham = s.cham := rfl
@[simp] theorem State.setPins_trace (v : Pins) : (s.setPins v).trace = s.trace := rfl
@[simp] theorem State.setPins_link (v : Pins) : (s.setPins v).link = s.link := rfl
@[simp] theorem State.setPins_serv (v : Pins) : (s.setPins v).serv = s.serv := rfl
@[simp] theorem State.setPins_draw (v : Pins) : (s.setPins v).draw = s.draw := rfl
@[simp] theorem State.setPins_pending (v : Pins) : (s.setPins v).pending = s.pending := rfl
@[simp] theorem State.setPins_setPins (v v' : Pins) :
    (s.setPins v).setPins v' = s.setPins v' := rfl
@[simp] theorem State.setPins_self : s.setPins s.pins = s := rfl

/-! ### setRot -/

@[simp] theorem State.setRot_time (v : Rotation) : (s.setRot v).time = s.time := rfl
@[simp] theorem State.setRot_pins (v : Rotation) : (s.setRot v).pins = s.pins := rfl
@[simp] theorem State.setRot_rot (v : Rotation) : (s.setRot v).rot = v := rfl
@[simp] theorem State.setRot_samp (v : Rotation) : (s.setRot v).samp = s.samp := rfl
@[simp] theorem State.setRot_est (v : Rotation) : (s.setRot v).est = s.est := rfl
@[simp] theorem State.setRot_weigh (v : Rotation) : (s.setRot v).weigh = s.weigh := rfl
@[simp] theorem State.setRot_table (v : Rotation) : (s.setRot v).table = s.table := rfl
@[simp] theorem State.setRot_spin (v : Rotation) : (s.setRot v).spin = s.spin := rfl
@[simp] theorem State.setRot_cham (v : Rotation) : (s.setRot v).cham = s.cham := rfl
@[simp] theorem State.setRot_trace (v : Rotation) : (s.setRot v).trace = s.trace := rfl
@[simp] theorem State.setRot_link (v : Rotation) : (s.setRot v).link = s.link := rfl
@[simp] theorem State.setRot_serv (v : Rotation) : (s.setRot v).serv = s.serv := rfl
@[simp] theorem State.setRot_draw (v : Rotation) : (s.setRot v).draw = s.draw := rfl
@[simp] theorem State.setRot_pending (v : Rotation) : (s.setRot v).pending = s.pending := rfl
@[simp] theorem State.setRot_setRot (v v' : Rotation) :
    (s.setRot v).setRot v' = s.setRot v' := rfl
@[simp] theorem State.setRot_self : s.setRot s.rot = s := rfl

/-! ### setSamp -/

@[simp] theorem State.setSamp_time (v : Sampler) : (s.setSamp v).time = s.time := rfl
@[simp] theorem State.setSamp_pins (v : Sampler) : (s.setSamp v).pins = s.pins := rfl
@[simp] theorem State.setSamp_rot (v : Sampler) : (s.setSamp v).rot = s.rot := rfl
@[simp] theorem State.setSamp_samp (v : Sampler) : (s.setSamp v).samp = v := rfl
@[simp] theorem State.setSamp_est (v : Sampler) : (s.setSamp v).est = s.est := rfl
@[simp] theorem State.setSamp_weigh (v : Sampler) : (s.setSamp v).weigh = s.weigh := rfl
@[simp] theorem State.setSamp_table (v : Sampler) : (s.setSamp v).table = s.table := rfl
@[simp] theorem State.setSamp_spin (v : Sampler) : (s.setSamp v).spin = s.spin := rfl
@[simp] theorem State.setSamp_cham (v : Sampler) : (s.setSamp v).cham = s.cham := rfl
@[simp] theorem State.setSamp_trace (v : Sampler) : (s.setSamp v).trace = s.trace := rfl
@[simp] theorem State.setSamp_link (v : Sampler) : (s.setSamp v).link = s.link := rfl
@[simp] theorem State.setSamp_serv (v : Sampler) : (s.setSamp v).serv = s.serv := rfl
@[simp] theorem State.setSamp_draw (v : Sampler) : (s.setSamp v).draw = s.draw := rfl
@[simp] theorem State.setSamp_pending (v : Sampler) : (s.setSamp v).pending = s.pending := rfl
@[simp] theorem State.setSamp_setSamp (v v' : Sampler) :
    (s.setSamp v).setSamp v' = s.setSamp v' := rfl
@[simp] theorem State.setSamp_self : s.setSamp s.samp = s := rfl

/-! ### setEst -/

@[simp] theorem State.setEst_time (v : Estimator) : (s.setEst v).time = s.time := rfl
@[simp] theorem State.setEst_pins (v : Estimator) : (s.setEst v).pins = s.pins := rfl
@[simp] theorem State.setEst_rot (v : Estimator) : (s.setEst v).rot = s.rot := rfl
@[simp] theorem State.setEst_samp (v : Estimator) : (s.setEst v).samp = s.samp := rfl
@[simp] theorem State.setEst_est (v : Estimator) : (s.setEst v).est = v := rfl
@[simp] theorem State.setEst_weigh (v : Estimator) : (s.setEst v).weigh = s.weigh := rfl
@[simp] theorem State.setEst_table (v : Estimator) : (s.setEst v).table = s.table := rfl
@[simp] theorem State.setEst_spin (v : Estimator) : (s.setEst v).spin = s.spin := rfl
@[simp] theorem State.setEst_cham (v : Estimator) : (s.setEst v).cham = s.cham := rfl
@[simp] theorem State.setEst_trace (v : Estimator) : (s.setEst v).trace = s.trace := rfl
@[simp] theorem State.setEst_link (v : Estimator) : (s.setEst v).link = s.link := rfl
@[simp] theorem State.setEst_serv (v : Estimator) : (s.setEst v).serv = s.serv := rfl
@[simp] theorem State.setEst_draw (v : Estimator) : (s.setEst v).draw = s.draw := rfl
@[simp] theorem State.setEst_pending (v : Estimator) : (s.setEst v).pending = s.pending := rfl
@[simp] theorem State.setEst_setEst (v v' : Estimator) :
    (s.setEst v).setEst v' = s.setEst v' := rfl
@[simp] theorem State.setEst_self : s.setEst s.est = s := rfl

/-! ### setWeigh -/

@[simp] theorem State.setWeigh_time (v : Weigh) : (s.setWeigh v).time = s.time := rfl
@[simp] theorem State.setWeigh_pins (v : Weigh) : (s.setWeigh v).pins = s.pins := rfl
@[simp] theorem State.setWeigh_rot (v : Weigh) : (s.setWeigh v).rot = s.rot := rfl
@[simp] theorem State.setWeigh_samp (v : Weigh) : (s.setWeigh v).samp = s.samp := rfl
@[simp] theorem State.setWeigh_est (v : Weigh) : (s.setWeigh v).est = s.est := rfl
@[simp] theorem State.setWeigh_weigh (v : Weigh) : (s.setWeigh v).weigh = v := rfl
@[simp] theorem State.setWeigh_table (v : Weigh) : (s.setWeigh v).table = s.table := rfl
@[simp] theorem State.setWeigh_spin (v : Weigh) : (s.setWeigh v).spin = s.spin := rfl
@[simp] theorem State.setWeigh_cham (v : Weigh) : (s.setWeigh v).cham = s.cham := rfl
@[simp] theorem State.setWeigh_trace (v : Weigh) : (s.setWeigh v).trace = s.trace := rfl
@[simp] theorem State.setWeigh_link (v : Weigh) : (s.setWeigh v).link = s.link := rfl
@[simp] theorem State.setWeigh_serv (v : Weigh) : (s.setWeigh v).serv = s.serv := rfl
@[simp] theorem State.setWeigh_draw (v : Weigh) : (s.setWeigh v).draw = s.draw := rfl
@[simp] theorem State.setWeigh_pending (v : Weigh) : (s.setWeigh v).pending = s.pending := rfl
@[simp] theorem State.setWeigh_setWeigh (v v' : Weigh) :
    (s.setWeigh v).setWeigh v' = s.setWeigh v' := rfl
@[simp] theorem State.setWeigh_self : s.setWeigh s.weigh = s := rfl

/-! ### setTable -/

@[simp] theorem State.setTable_time (v : Table) : (s.setTable v).time = s.time := rfl
@[simp] theorem State.setTable_pins (v : Table) : (s.setTable v).pins = s.pins := rfl
@[simp] theorem State.setTable_rot (v : Table) : (s.setTable v).rot = s.rot := rfl
@[simp] theorem State.setTable_samp (v : Table) : (s.setTable v).samp = s.samp := rfl
@[simp] theorem State.setTable_est (v : Table) : (s.setTable v).est = s.est := rfl
@[simp] theorem State.setTable_weigh (v : Table) : (s.setTable v).weigh = s.weigh := rfl
@[simp] theorem State.setTable_table (v : Table) : (s.setTable v).table = v := rfl
@[simp] theorem State.setTable_spin (v : Table) : (s.setTable v).spin = s.spin := rfl
@[simp] theorem State.setTable_cham (v : Table) : (s.setTable v).cham = s.cham := rfl
@[simp] theorem State.setTable_trace (v : Table) : (s.setTable v).trace = s.trace := rfl
@[simp] theorem State.setTable_link (v : Table) : (s.setTable v).link = s.link := rfl
@[simp] theorem State.setTable_serv (v : Table) : (s.setTable v).serv = s.serv := rfl
@[simp] theorem State.setTable_draw (v : Table) : (s.setTable v).draw = s.draw := rfl
@[simp] theorem State.setTable_pending (v : Table) : (s.setTable v).pending = s.pending := rfl
@[simp] theorem State.setTable_setTable (v v' : Table) :
    (s.setTable v).setTable v' = s.setTable v' := rfl
@[simp] theorem State.setTable_self : s.setTable s.table = s := rfl

/-! ### setSpin -/

@[simp] theorem State.setSpin_time (v : Spin) : (s.setSpin v).time = s.time := rfl
@[simp] theorem State.setSpin_pins (v : Spin) : (s.setSpin v).pins = s.pins := rfl
@[simp] theorem State.setSpin_rot (v : Spin) : (s.setSpin v).rot = s.rot := rfl
@[simp] theorem State.setSpin_samp (v : Spin) : (s.setSpin v).samp = s.samp := rfl
@[simp] theorem State.setSpin_est (v : Spin) : (s.setSpin v).est = s.est := rfl
@[simp] theorem State.setSpin_weigh (v : Spin) : (s.setSpin v).weigh = s.weigh := rfl
@[simp] theorem State.setSpin_table (v : Spin) : (s.setSpin v).table = s.table := rfl
@[simp] theorem State.setSpin_spin (v : Spin) : (s.setSpin v).spin = v := rfl
@[simp] theorem State.setSpin_cham (v : Spin) : (s.setSpin v).cham = s.cham := rfl
@[simp] theorem State.setSpin_trace (v : Spin) : (s.setSpin v).trace = s.trace := rfl
@[simp] theorem State.setSpin_link (v : Spin) : (s.setSpin v).link = s.link := rfl
@[simp] theorem State.setSpin_serv (v : Spin) : (s.setSpin v).serv = s.serv := rfl
@[simp] theorem State.setSpin_draw (v : Spin) : (s.setSpin v).draw = s.draw := rfl
@[simp] theorem State.setSpin_pending (v : Spin) : (s.setSpin v).pending = s.pending := rfl
@[simp] theorem State.setSpin_setSpin (v v' : Spin) :
    (s.setSpin v).setSpin v' = s.setSpin v' := rfl
@[simp] theorem State.setSpin_self : s.setSpin s.spin = s := rfl

/-! ### setCham -/

@[simp] theorem State.setCham_time (v : ChamberCtl) : (s.setCham v).time = s.time := rfl
@[simp] theorem State.setCham_pins (v : ChamberCtl) : (s.setCham v).pins = s.pins := rfl
@[simp] theorem State.setCham_rot (v : ChamberCtl) : (s.setCham v).rot = s.rot := rfl
@[simp] theorem State.setCham_samp (v : ChamberCtl) : (s.setCham v).samp = s.samp := rfl
@[simp] theorem State.setCham_est (v : ChamberCtl) : (s.setCham v).est = s.est := rfl
@[simp] theorem State.setCham_weigh (v : ChamberCtl) : (s.setCham v).weigh = s.weigh := rfl
@[simp] theorem State.setCham_table (v : ChamberCtl) : (s.setCham v).table = s.table := rfl
@[simp] theorem State.setCham_spin (v : ChamberCtl) : (s.setCham v).spin = s.spin := rfl
@[simp] theorem State.setCham_cham (v : ChamberCtl) : (s.setCham v).cham = v := rfl
@[simp] theorem State.setCham_trace (v : ChamberCtl) : (s.setCham v).trace = s.trace := rfl
@[simp] theorem State.setCham_link (v : ChamberCtl) : (s.setCham v).link = s.link := rfl
@[simp] theorem State.setCham_serv (v : ChamberCtl) : (s.setCham v).serv = s.serv := rfl
@[simp] theorem State.setCham_draw (v : ChamberCtl) : (s.setCham v).draw = s.draw := rfl
@[simp] theorem State.setCham_pending (v : ChamberCtl) : (s.setCham v).pending = s.pending := rfl
@[simp] theorem State.setCham_setCham (v v' : ChamberCtl) :
    (s.setCham v).setCham v' = s.setCham v' := rfl
@[simp] theorem State.setCham_self : s.setCham s.cham = s := rfl

/-! ### setTrace -/

@[simp] theorem State.setTrace_time (v : TraceQueue) : (s.setTrace v).time = s.time := rfl
@[simp] theorem State.setTrace_pins (v : TraceQueue) : (s.setTrace v).pins = s.pins := rfl
@[simp] theorem State.setTrace_rot (v : TraceQueue) : (s.setTrace v).rot = s.rot := rfl
@[simp] theorem State.setTrace_samp (v : TraceQueue) : (s.setTrace v).samp = s.samp := rfl
@[simp] theorem State.setTrace_est (v : TraceQueue) : (s.setTrace v).est = s.est := rfl
@[simp] theorem State.setTrace_weigh (v : TraceQueue) : (s.setTrace v).weigh = s.weigh := rfl
@[simp] theorem State.setTrace_table (v : TraceQueue) : (s.setTrace v).table = s.table := rfl
@[simp] theorem State.setTrace_spin (v : TraceQueue) : (s.setTrace v).spin = s.spin := rfl
@[simp] theorem State.setTrace_cham (v : TraceQueue) : (s.setTrace v).cham = s.cham := rfl
@[simp] theorem State.setTrace_trace (v : TraceQueue) : (s.setTrace v).trace = v := rfl
@[simp] theorem State.setTrace_link (v : TraceQueue) : (s.setTrace v).link = s.link := rfl
@[simp] theorem State.setTrace_serv (v : TraceQueue) : (s.setTrace v).serv = s.serv := rfl
@[simp] theorem State.setTrace_draw (v : TraceQueue) : (s.setTrace v).draw = s.draw := rfl
@[simp] theorem State.setTrace_pending (v : TraceQueue) : (s.setTrace v).pending = s.pending := rfl
@[simp] theorem State.setTrace_setTrace (v v' : TraceQueue) :
    (s.setTrace v).setTrace v' = s.setTrace v' := rfl
@[simp] theorem State.setTrace_self : s.setTrace s.trace = s := rfl

/-! ### setLink -/

@[simp] theorem State.setLink_time (v : Link) : (s.setLink v).time = s.time := rfl
@[simp] theorem State.setLink_pins (v : Link) : (s.setLink v).pins = s.pins := rfl
@[simp] theorem State.setLink_rot (v : Link) : (s.setLink v).rot = s.rot := rfl
@[simp] theorem State.setLink_samp (v : Link) : (s.setLink v).samp = s.samp := rfl
@[simp] theorem State.setLink_est (v : Link) : (s.setLink v).est = s.est := rfl
@[simp] theorem State.setLink_weigh (v : Link) : (s.setLink v).weigh = s.weigh := rfl
@[simp] theorem State.setLink_table (v : Link) : (s.setLink v).table = s.table := rfl
@[simp] theorem State.setLink_spin (v : Link) : (s.setLink v).spin = s.spin := rfl
@[simp] theorem State.setLink_cham (v : Link) : (s.setLink v).cham = s.cham := rfl
@[simp] theorem State.setLink_trace (v : Link) : (s.setLink v).trace = s.trace := rfl
@[simp] theorem State.setLink_link (v : Link) : (s.setLink v).link = v := rfl
@[simp] theorem State.setLink_serv (v : Link) : (s.setLink v).serv = s.serv := rfl
@[simp] theorem State.setLink_draw (v : Link) : (s.setLink v).draw = s.draw := rfl
@[simp] theorem State.setLink_pending (v : Link) : (s.setLink v).pending = s.pending := rfl
@[simp] theorem State.setLink_setLink (v v' : Link) :
    (s.setLink v).setLink v' = s.setLink v' := rfl
@[simp] theorem State.setLink_self : s.setLink s.link = s := rfl

/-! ### setServ -/

@[simp] theorem State.setServ_time (v : Service) : (s.setServ v).time = s.time := rfl
@[simp] theorem State.setServ_pins (v : Service) : (s.setServ v).pins = s.pins := rfl
@[simp] theorem State.setServ_rot (v : Service) : (s.setServ v).rot = s.rot := rfl
@[simp] theorem State.setServ_samp (v : Service) : (s.setServ v).samp = s.samp := rfl
@[simp] theorem State.setServ_est (v : Service) : (s.setServ v).est = s.est := rfl
@[simp] theorem State.setServ_weigh (v : Service) : (s.setServ v).weigh = s.weigh := rfl
@[simp] theorem State.setServ_table (v : Service) : (s.setServ v).table = s.table := rfl
@[simp] theorem State.setServ_spin (v : Service) : (s.setServ v).spin = s.spin := rfl
@[simp] theorem State.setServ_cham (v : Service) : (s.setServ v).cham = s.cham := rfl
@[simp] theorem State.setServ_trace (v : Service) : (s.setServ v).trace = s.trace := rfl
@[simp] theorem State.setServ_link (v : Service) : (s.setServ v).link = s.link := rfl
@[simp] theorem State.setServ_serv (v : Service) : (s.setServ v).serv = v := rfl
@[simp] theorem State.setServ_draw (v : Service) : (s.setServ v).draw = s.draw := rfl
@[simp] theorem State.setServ_pending (v : Service) : (s.setServ v).pending = s.pending := rfl
@[simp] theorem State.setServ_setServ (v v' : Service) :
    (s.setServ v).setServ v' = s.setServ v' := rfl
@[simp] theorem State.setServ_self : s.setServ s.serv = s := rfl

/-! ### setDraw -/

@[simp] theorem State.setDraw_time (v : Nat) : (s.setDraw v).time = s.time := rfl
@[simp] theorem State.setDraw_pins (v : Nat) : (s.setDraw v).pins = s.pins := rfl
@[simp] theorem State.setDraw_rot (v : Nat) : (s.setDraw v).rot = s.rot := rfl
@[simp] theorem State.setDraw_samp (v : Nat) : (s.setDraw v).samp = s.samp := rfl
@[simp] theorem State.setDraw_est (v : Nat) : (s.setDraw v).est = s.est := rfl
@[simp] theorem State.setDraw_weigh (v : Nat) : (s.setDraw v).weigh = s.weigh := rfl
@[simp] theorem State.setDraw_table (v : Nat) : (s.setDraw v).table = s.table := rfl
@[simp] theorem State.setDraw_spin (v : Nat) : (s.setDraw v).spin = s.spin := rfl
@[simp] theorem State.setDraw_cham (v : Nat) : (s.setDraw v).cham = s.cham := rfl
@[simp] theorem State.setDraw_trace (v : Nat) : (s.setDraw v).trace = s.trace := rfl
@[simp] theorem State.setDraw_link (v : Nat) : (s.setDraw v).link = s.link := rfl
@[simp] theorem State.setDraw_serv (v : Nat) : (s.setDraw v).serv = s.serv := rfl
@[simp] theorem State.setDraw_draw (v : Nat) : (s.setDraw v).draw = v := rfl
@[simp] theorem State.setDraw_pending (v : Nat) : (s.setDraw v).pending = s.pending := rfl
@[simp] theorem State.setDraw_setDraw (v v' : Nat) :
    (s.setDraw v).setDraw v' = s.setDraw v' := rfl
@[simp] theorem State.setDraw_self : s.setDraw s.draw = s := rfl

/-! ### setPending -/

@[simp] theorem State.setPending_time (v : List Instr) : (s.setPending v).time = s.time := rfl
@[simp] theorem State.setPending_pins (v : List Instr) : (s.setPending v).pins = s.pins := rfl
@[simp] theorem State.setPending_rot (v : List Instr) : (s.setPending v).rot = s.rot := rfl
@[simp] theorem State.setPending_samp (v : List Instr) : (s.setPending v).samp = s.samp := rfl
@[simp] theorem State.setPending_est (v : List Instr) : (s.setPending v).est = s.est := rfl
@[simp] theorem State.setPending_weigh (v : List Instr) : (s.setPending v).weigh = s.weigh := rfl
@[simp] theorem State.setPending_table (v : List Instr) : (s.setPending v).table = s.table := rfl
@[simp] theorem State.setPending_spin (v : List Instr) : (s.setPending v).spin = s.spin := rfl
@[simp] theorem State.setPending_cham (v : List Instr) : (s.setPending v).cham = s.cham := rfl
@[simp] theorem State.setPending_trace (v : List Instr) : (s.setPending v).trace = s.trace := rfl
@[simp] theorem State.setPending_link (v : List Instr) : (s.setPending v).link = s.link := rfl
@[simp] theorem State.setPending_serv (v : List Instr) : (s.setPending v).serv = s.serv := rfl
@[simp] theorem State.setPending_draw (v : List Instr) : (s.setPending v).draw = s.draw := rfl
@[simp] theorem State.setPending_pending (v : List Instr) : (s.setPending v).pending = v := rfl
@[simp] theorem State.setPending_setPending (v v' : List Instr) :
    (s.setPending v).setPending v' = s.setPending v' := rfl
@[simp] theorem State.setPending_self : s.setPending s.pending = s := rfl

/-! ### begin and tick -/

variable (w : Wait)

@[simp] theorem State.begin_time : (s.begin w).time = s.time + BitVec.ofNat 32 w.us := rfl
@[simp] theorem State.begin_pins :
    (s.begin w).pins = ⟨s.pins.svc || w.svcRises, s.pins.dflt && !w.dfltReleases⟩ := rfl
@[simp] theorem State.begin_rot : (s.begin w).rot = s.rot := rfl
@[simp] theorem State.begin_samp : (s.begin w).samp = s.samp := rfl
@[simp] theorem State.begin_est : (s.begin w).est = s.est := rfl
@[simp] theorem State.begin_weigh : (s.begin w).weigh = s.weigh := rfl
@[simp] theorem State.begin_table : (s.begin w).table = s.table := rfl
@[simp] theorem State.begin_spin : (s.begin w).spin = s.spin := rfl
@[simp] theorem State.begin_cham : (s.begin w).cham = s.cham := rfl
@[simp] theorem State.begin_trace : (s.begin w).trace = s.trace := rfl
@[simp] theorem State.begin_link : (s.begin w).link = s.link := rfl
@[simp] theorem State.begin_serv : (s.begin w).serv = s.serv := rfl
@[simp] theorem State.begin_draw : (s.begin w).draw = s.draw + 1 := rfl
@[simp] theorem State.begin_pending : (s.begin w).pending = s.pending := rfl
@[simp] theorem State.tick_time : s.tick.time = s.time + 1 := rfl
@[simp] theorem State.tick_pins : s.tick.pins = s.pins := rfl
@[simp] theorem State.tick_rot : s.tick.rot = s.rot := rfl
@[simp] theorem State.tick_samp : s.tick.samp = s.samp := rfl
@[simp] theorem State.tick_est : s.tick.est = s.est := rfl
@[simp] theorem State.tick_weigh : s.tick.weigh = s.weigh := rfl
@[simp] theorem State.tick_table : s.tick.table = s.table := rfl
@[simp] theorem State.tick_spin : s.tick.spin = s.spin := rfl
@[simp] theorem State.tick_cham : s.tick.cham = s.cham := rfl
@[simp] theorem State.tick_trace : s.tick.trace = s.trace := rfl
@[simp] theorem State.tick_link : s.tick.link = s.link := rfl
@[simp] theorem State.tick_serv : s.tick.serv = s.serv := rfl
@[simp] theorem State.tick_draw : s.tick.draw = s.draw := rfl
@[simp] theorem State.tick_pending : s.tick.pending = s.pending := rfl

/-- Two states with equal fields are equal. -/
theorem State.ext_fields {s t : State} (h1 : s.time = t.time) (h2 : s.pins = t.pins)
    (h3 : s.rot = t.rot) (h4 : s.samp = t.samp) (h5 : s.est = t.est) (h6 : s.weigh = t.weigh)
    (h7 : s.table = t.table) (h8 : s.spin = t.spin) (h9 : s.cham = t.cham)
    (h10 : s.trace = t.trace) (h11 : s.link = t.link) (h12 : s.serv = t.serv)
    (h13 : s.draw = t.draw) (h14 : s.pending = t.pending) : s = t := by
  cases s
  cases t
  simp_all

end Sys2Proof.Machine
end

