-- ==== Sys2Proof/Laws/Reports.lean ====
section
/-! SUPPORT. What giving a report does to the Link Port (R173, R174), and the frame every block outside the Link Port keeps of
it. -/

namespace Sys2Proof.Machine

/-- What a block outside the Link Port may change of it: reports are given, and nothing else. -/
structure LinkFrame (l l' : Link) : Prop where
  fast : l'.fast = l.fast
  rx : l'.rx = l.rx
  gapTimer : l'.gapTimer = l.gapTimer
  inService : l'.inService = l.inService
  waiting : l'.waiting = l.waiting
  replySlot : l'.replySlot = l.replySlot
  tx : l'.tx = l.tx
  discards : l'.discards = l.discards
  room : l.reports.length ≤ reportRoom → l'.reports.length ≤ reportRoom
  count : l.dropped ≤ 255 → l'.dropped ≤ 255
  mark : l.eventsDropped = (l.dropped != 0) → l'.eventsDropped = (l'.dropped != 0)
  kept : ∃ more, l'.reports = l.reports ++ more

theorem LinkFrame.refl (l : Link) : LinkFrame l l :=
  ⟨rfl, rfl, rfl, rfl, rfl, rfl, rfl, rfl, id, id, id, [], by simp⟩

theorem LinkFrame.trans {a b c : Link} (h : LinkFrame a b) (k : LinkFrame b c) : LinkFrame a c where
  fast := k.fast.trans h.fast
  rx := k.rx.trans h.rx
  gapTimer := k.gapTimer.trans h.gapTimer
  inService := k.inService.trans h.inService
  waiting := k.waiting.trans h.waiting
  replySlot := k.replySlot.trans h.replySlot
  tx := k.tx.trans h.tx
  discards := k.discards.trans h.discards
  room := k.room ∘ h.room
  count := k.count ∘ h.count
  mark := k.mark ∘ h.mark
  kept := by
    obtain ⟨x, hx⟩ := h.kept
    obtain ⟨y, hy⟩ := k.kept
    exact ⟨x ++ y, by rw [hy, hx, List.append_assoc]⟩

/-- R173: with room, the report joins as the newest entry and nothing else changes. -/
theorem Link.giveReport_room {l : Link} (h : l.reports.length < reportRoom) (r : Report) :
    l.giveReport r = { l with reports := l.reports ++ [r] } := by
  simp [Link.giveReport, h]

/-- R174: without room it is dropped, with the mark and the count. -/
theorem Link.giveReport_full {l : Link} (h : reportRoom ≤ l.reports.length) (r : Report) :
    l.giveReport r = { l with eventsDropped := true, dropped := countUp 255 l.dropped } := by
  simp [Link.giveReport, Nat.not_lt.mpr h]

theorem Link.giveReport_frame (l : Link) (r : Report) : LinkFrame l (l.giveReport r) := by
  rcases Nat.lt_or_ge l.reports.length reportRoom with h | h
  · rw [l.giveReport_room h]
    exact ⟨rfl, rfl, rfl, rfl, rfl, rfl, rfl, rfl, fun _ => by simp; omega, id, id, [r], rfl⟩
  · rw [l.giveReport_full h]
    refine ⟨rfl, rfl, rfl, rfl, rfl, rfl, rfl, rfl, id, fun _ => countUp_le _ _, fun _ => ?_, [],
      by simp⟩
    have := countUp_pos (top := 255) (n := l.dropped) (by omega)
    simp only [Bool.true_eq, bne_iff_ne]
    omega

/-- A report changes no field of State but the link. -/
theorem giveReport_eq (r : Report) (s : State) :
    giveReport r s = s.setLink (s.link.giveReport r) := rfl

variable (r : Report) (s : State)

@[simp] theorem giveReport_time : (giveReport r s).time = s.time := rfl
@[simp] theorem giveReport_pins : (giveReport r s).pins = s.pins := rfl
@[simp] theorem giveReport_rot : (giveReport r s).rot = s.rot := rfl
@[simp] theorem giveReport_samp : (giveReport r s).samp = s.samp := rfl
@[simp] theorem giveReport_est : (giveReport r s).est = s.est := rfl
@[simp] theorem giveReport_weigh : (giveReport r s).weigh = s.weigh := rfl
@[simp] theorem giveReport_table : (giveReport r s).table = s.table := rfl
@[simp] theorem giveReport_spin : (giveReport r s).spin = s.spin := rfl
@[simp] theorem giveReport_cham : (giveReport r s).cham = s.cham := rfl
@[simp] theorem giveReport_trace : (giveReport r s).trace = s.trace := rfl
@[simp] theorem giveReport_link : (giveReport r s).link = s.link.giveReport r := rfl
@[simp] theorem giveReport_serv : (giveReport r s).serv = s.serv := rfl
@[simp] theorem giveReport_draw : (giveReport r s).draw = s.draw := rfl
@[simp] theorem giveReport_pending : (giveReport r s).pending = s.pending := rfl

end Sys2Proof.Machine
end

