-- ==== Sys2Proof/Laws/Water.lean ====
section
/-! SUPPORT. What the Chamber Controller's operations may change: the chamber records, the reports given and what the Orbit
Estimator is told (R148), and nothing else. -/

namespace Sys2Proof.Machine

/-- The frame of the water operations. The estimator's window, count and estimate are its own. -/
structure WaterFrame (s t : State) : Prop where
  time : t.time = s.time
  pins : t.pins = s.pins
  rot : t.rot = s.rot
  samp : t.samp = s.samp
  weigh : t.weigh = s.weigh
  table : t.table = s.table
  spin : t.spin = s.spin
  trace : t.trace = s.trace
  serv : t.serv = s.serv
  draw : t.draw = s.draw
  pending : t.pending = s.pending
  window : t.est.window = s.est.window
  count : t.est.m = s.est.m
  latest : t.est.latest = s.est.latest
  preFill : t.est.preFill.isSome = true → s.est.preFill.isSome = true
  link : LinkFrame s.link t.link

namespace WaterFrame

theorem refl (s : State) : WaterFrame s s :=
  ⟨rfl, rfl, rfl, rfl, rfl, rfl, rfl, rfl, rfl, rfl, rfl, rfl, rfl, rfl, id, .refl _⟩

theorem trans {a b c : State} (h : WaterFrame a b) (k : WaterFrame b c) : WaterFrame a c where
  time := k.time.trans h.time
  pins := k.pins.trans h.pins
  rot := k.rot.trans h.rot
  samp := k.samp.trans h.samp
  weigh := k.weigh.trans h.weigh
  table := k.table.trans h.table
  spin := k.spin.trans h.spin
  trace := k.trace.trans h.trace
  serv := k.serv.trans h.serv
  draw := k.draw.trans h.draw
  pending := k.pending.trans h.pending
  window := k.window.trans h.window
  count := k.count.trans h.count
  latest := k.latest.trans h.latest
  preFill := h.preFill ∘ k.preFill
  link := h.link.trans k.link

theorem setCham (s : State) (t : ChamberCtl) : WaterFrame s (s.setCham t) :=
  ⟨rfl, rfl, rfl, rfl, rfl, rfl, rfl, rfl, rfl, rfl, rfl, rfl, rfl, rfl, id, .refl _⟩

theorem report (s : State) (r : Report) : WaterFrame s (giveReport r s) :=
  ⟨rfl, rfl, rfl, rfl, rfl, rfl, rfl, rfl, rfl, rfl, rfl, rfl, rfl, rfl, id,
    s.link.giveReport_frame r⟩

end WaterFrame

variable (s : State)

/-- R40: an order's end leaves window, count and estimate alone and never makes a pre-fill record. -/
theorem Estimator.orderEnd_spec (e : Estimator) (c : Fin 4) (g : Nat) (r : EndReason) :
    (e.orderEnd c g r).window = e.window ∧ (e.orderEnd c g r).m = e.m
      ∧ (e.orderEnd c g r).latest = e.latest
      ∧ ((e.orderEnd c g r).preFill.isSome = true → e.preFill.isSome = true) := by
  cases r <;> simp [Estimator.orderEnd]

theorem State.handEnd_frame (o : Order) (g : Nat) (r : EndReason) :
    WaterFrame s (s.handEnd o g r) := by
  have h := s.est.orderEnd_spec o.chamber g r
  unfold State.handEnd
  split
  · exact ⟨rfl, rfl, rfl, rfl, rfl, rfl, rfl, rfl, rfl, rfl, rfl, h.1, h.2.1, h.2.2.1, h.2.2.2,
      .refl _⟩
  · exact .refl s

theorem State.handEnd_cham (o : Order) (g : Nat) (r : EndReason) :
    (s.handEnd o g r).cham = s.cham := by
  unfold State.handEnd; split <;> rfl

theorem State.handDropped_frame (r : EndReason) (os : List Order) :
    WaterFrame s (s.handDropped r os) := by
  induction os generalizing s with
  | nil => exact .refl s
  | cons o rest ih => exact (s.handEnd_frame o 0 r).trans (ih _)

theorem State.handDropped_cham (r : EndReason) (os : List Order) :
    (s.handDropped r os).cham = s.cham := by
  induction os generalizing s with
  | nil => rfl
  | cons o rest ih => exact (ih _).trans (s.handEnd_cham o 0 r)

theorem State.endUnstarted_frame (o : Order) (r : EndReason) (dropped : List Order) :
    WaterFrame s (s.endUnstarted o r dropped) :=
  (((WaterFrame.setCham s _).trans (WaterFrame.report _ _)).trans (State.handEnd_frame _ o 0 r)).trans
    (State.handDropped_frame _ r dropped)

theorem State.endUnstarted_cham (o : Order) (r : EndReason) (dropped : List Order) :
    (s.endUnstarted o r dropped).cham =
      (s.cham.setLastEnd o.chamber r).setLastEnds r dropped := by
  simp [State.endUnstarted, State.handDropped_cham, State.handEnd_cham]

theorem State.endFlight_frame (r : EndReason) (dropped : List Order) :
    WaterFrame s (s.endFlight r dropped) := by
  unfold State.endFlight
  split
  · exact .refl s
  · exact (((WaterFrame.setCham s _).trans (WaterFrame.report _ _)).trans
      (State.handEnd_frame _ _ _ r)).trans (State.handDropped_frame _ r dropped)

/-- R147: the order in flight is over; queue, leak count, mark, pending fault and bleed timer stay. -/
theorem State.endFlight_cham (r : EndReason) (dropped : List Order) {f : Flight}
    (h : s.cham.flight = some f) :
    (s.endFlight r dropped).cham =
      { (s.cham.setLastEnd f.order.chamber r).setLastEnds r dropped with
        flight := none, supplyTimer := none } := by
  simp [State.endFlight, h, State.handDropped_cham, State.handEnd_cham]

theorem State.startFrom_frame (q : List Order) : WaterFrame s (s.startFrom q) := by
  induction q generalizing s with
  | nil => exact .setCham s _
  | cons o rest ih =>
    rw [State.startFrom]
    dsimp only
    split
    · exact (State.endUnstarted_frame s _ _ _).trans (ih _)
    · exact .setCham s _

theorem State.startNext_frame : WaterFrame s s.startNext := by
  unfold State.startNext
  split
  · exact .refl s
  · exact s.startFrom_frame _

theorem State.lineClosed_frame : WaterFrame s s.lineClosed := by
  unfold State.lineClosed
  split
  · exact .refl s
  · exact .setCham s _

theorem State.endAndGoOn_frame (r : EndReason) : WaterFrame s (s.endAndGoOn r) := by
  unfold State.endAndGoOn
  split
  · exact ((s.endFlight_frame r []).trans (State.startNext_frame _)).trans
      (State.lineClosed_frame _)
  · exact .refl s

theorem State.endAll_frame (r : EndReason) : WaterFrame s (s.endAll r) := by
  unfold State.endAll
  split
  · exact ((WaterFrame.setCham s _).trans (State.endFlight_frame _ r _)).trans
      (State.lineClosed_frame _)
  · exact .refl s

theorem State.stopPlanFills_frame : WaterFrame s s.stopPlanFills := s.endAll_frame _

theorem State.takeOrder_frame (o : Order) : WaterFrame s (s.takeOrder o) := by
  unfold State.takeOrder
  split
  · exact (WaterFrame.setCham s _).trans (State.endUnstarted_frame _ _ _ _)
  · exact .setCham s _
  · exact (s.endFlight_frame _ _).trans (WaterFrame.setCham _ _)
  · exact .setCham s _
  · exact (WaterFrame.setCham s _).trans (State.startNext_frame _)

theorem State.takeOrders_frame (os : List Order) : WaterFrame s (s.takeOrders os) := by
  induction os generalizing s with
  | nil => exact .refl s
  | cons o rest ih => exact (s.takeOrder_frame o).trans (ih _)

theorem State.leakPulse_frame : WaterFrame s s.leakPulse := by
  unfold State.leakPulse
  split
  · exact (WaterFrame.setCham s _).trans (WaterFrame.report _ _)
  · exact .setCham s _

/-! ## The arbiter goes on (R145) -/

/-- An end that delivered nothing leaves a planner's account of delivered water as it is, when it is CAPACITY. -/
theorem State.handEnd_zero (o : Order) : s.handEnd o 0 .capacity = s := by
  unfold State.handEnd
  split
  · simp only [Estimator.orderEnd, PreFill.add, Nat.add_zero]
    obtain ⟨⟩ := s
    simp [State.setEst]
  · rfl

/-- A queued order that ends without having started: the last end of its chamber and its report, and nothing else. -/
theorem State.endUnstarted_capacity (o : Order) : s.endUnstarted { o with amount := 0 } .capacity [] =
    giveReport (.fillEnd ⟨{ o with amount := 0 }, 0, 0, .capacity, s.cham.content o.chamber, []⟩)
      (s.setCham (s.cham.setLastEnd o.chamber .capacity)) := by
  simp only [State.endUnstarted, State.handDropped, ChamberCtl.setLastEnds, State.handEnd_zero]

/-- The orders the arbiter goes through are the ones it is given, whatever the queue says. -/
theorem State.startFrom_setQueue (q l : List Order) :
    (s.setCham { s.cham with queue := q }).startFrom l = s.startFrom l := by
  induction l generalizing s with
  | nil => rfl
  | cons o rest ih =>
    simp only [State.startFrom, State.endUnstarted_capacity]
    have room : (s.setCham { s.cham with queue := q }).cham.room o.chamber = s.cham.room o.chamber := rfl
    rw [room]
    split
    · exact ih (giveReport
        (.fillEnd ⟨{ o with amount := 0 }, 0, 0, .capacity, s.cham.content o.chamber, []⟩)
        (s.setCham (s.cham.setLastEnd o.chamber .capacity)))
    · rfl

/-- R145: with the line free and nothing queued the arbiter changes nothing. -/
theorem State.startNext_empty (h : s.cham.queue = []) : s.startNext = s := by
  unfold State.startNext
  split
  · rfl
  · rw [h, State.startFrom, ← h]
    rfl

/-- R145: with the line free the oldest queued order starts when its clamped amount is not 0; otherwise it ends CAPACITY
and the arbiter goes on. -/
theorem State.startNext_cons (o : Order) (rest : List Order) (h : s.cham.queue = o :: rest)
    (hf : s.cham.flight = none) : s.startNext =
      if min o.amount (s.cham.room o.chamber) = 0 then
        State.startNext (giveReport
          (.fillEnd ⟨{ o with amount := 0 }, 0, 0, .capacity, s.cham.content o.chamber, []⟩)
          (s.setCham { s.cham.setLastEnd o.chamber .capacity with queue := rest }))
      else s.setCham ({ s.cham with queue := rest }.startOrder s.time s.spin.par.supplyTimeout
        { o with amount := min o.amount (s.cham.room o.chamber) }) := by
  rw [State.startNext, h, hf]
  simp only [Option.isSome_none, Bool.false_eq_true, if_false, State.startFrom, State.endUnstarted_capacity]
  split
  · rw [State.startNext]
    have idle : (s.cham.setLastEnd o.chamber .capacity).flight = none := hf
    rw [if_neg (by
      show ¬ (s.cham.setLastEnd o.chamber .capacity).flight.isSome = true
      simp [idle])]
    exact (State.startFrom_setQueue (giveReport
      (.fillEnd ⟨{ o with amount := 0 }, 0, 0, .capacity, s.cham.content o.chamber, []⟩)
      (s.setCham (s.cham.setLastEnd o.chamber .capacity))) rest rest).symm
  · rfl

/-! ## Contents -/

@[simp] theorem ChamberCtl.content_setContent_self (t : ChamberCtl) (c : Fin 4) (v : Nat) :
    (t.setContent c v).content c = v := by
  simp [ChamberCtl.content, ChamberCtl.setContent]

theorem ChamberCtl.content_setContent_ne (t : ChamberCtl) {c d : Fin 4} (h : c ≠ d) (v : Nat) :
    (t.setContent c v).content d = t.content d := by
  have : c.val ≠ d.val := fun e => h (Fin.ext e)
  simp [ChamberCtl.content, ChamberCtl.setContent, this]

@[simp] theorem ChamberCtl.content_setLastEnd (t : ChamberCtl) (c d : Fin 4) (r : EndReason) :
    (t.setLastEnd c r).content d = t.content d := by
  by_cases h : c.val = d.val
  · have : c = d := Fin.ext h
    subst this
    simp [ChamberCtl.content, ChamberCtl.setLastEnd]
  · simp [ChamberCtl.content, ChamberCtl.setLastEnd, h]

@[simp] theorem ChamberCtl.content_setLastEnds (t : ChamberCtl) (d : Fin 4) (r : EndReason)
    (os : List Order) : (t.setLastEnds r os).content d = t.content d := by
  induction os generalizing t with
  | nil => rfl
  | cons o rest ih => simp [ChamberCtl.setLastEnds, ih]

@[simp] theorem ChamberCtl.setLastEnd_queue (t : ChamberCtl) (c : Fin 4) (r : EndReason) :
    (t.setLastEnd c r).queue = t.queue := rfl

@[simp] theorem ChamberCtl.setLastEnd_flight (t : ChamberCtl) (c : Fin 4) (r : EndReason) :
    (t.setLastEnd c r).flight = t.flight := rfl

@[simp] theorem ChamberCtl.setLastEnds_queue (t : ChamberCtl) (r : EndReason) (os : List Order) :
    (t.setLastEnds r os).queue = t.queue := by
  induction os generalizing t with
  | nil => rfl
  | cons o rest ih => exact ih _

@[simp] theorem ChamberCtl.setLastEnds_flight (t : ChamberCtl) (r : EndReason) (os : List Order) :
    (t.setLastEnds r os).flight = t.flight := by
  induction os generalizing t with
  | nil => rfl
  | cons o rest ih => exact ih _

end Sys2Proof.Machine
end

