-- ==== Sys2Proof/Laws/Session.lean ====
section
/-! SUPPORT. What the Spin Controller's changes of state may touch (06), and the spin record each leaves. -/

namespace Sys2Proof.Machine

/-- The frame of the session operations: the rotation, the table, the trace queue, service mode and the
model's own fields stay; the Link Port is only given reports. -/
structure SessionFrame (s t : State) : Prop where
  time : t.time = s.time
  pins : t.pins = s.pins
  rot : t.rot = s.rot
  table : t.table = s.table
  trace : t.trace = s.trace
  serv : t.serv = s.serv
  draw : t.draw = s.draw
  pending : t.pending = s.pending
  link : LinkFrame s.link t.link

namespace SessionFrame

theorem refl (s : State) : SessionFrame s s := ⟨rfl, rfl, rfl, rfl, rfl, rfl, rfl, rfl, .refl _⟩

theorem trans {a b c : State} (h : SessionFrame a b) (k : SessionFrame b c) :
    SessionFrame a c where
  time := k.time.trans h.time
  pins := k.pins.trans h.pins
  rot := k.rot.trans h.rot
  table := k.table.trans h.table
  trace := k.trace.trans h.trace
  serv := k.serv.trans h.serv
  draw := k.draw.trans h.draw
  pending := k.pending.trans h.pending
  link := h.link.trans k.link

theorem ofWater {s t : State} (h : WaterFrame s t) : SessionFrame s t :=
  ⟨h.time, h.pins, h.rot, h.table, h.trace, h.serv, h.draw, h.pending, h.link⟩

theorem report (s : State) (r : Report) : SessionFrame s (giveReport r s) :=
  .ofWater (.report s r)

theorem setSpin (s : State) (p : Spin) : SessionFrame s (s.setSpin p) :=
  ⟨rfl, rfl, rfl, rfl, rfl, rfl, rfl, rfl, .refl _⟩

theorem setEst (s : State) (e : Estimator) : SessionFrame s (s.setEst e) :=
  ⟨rfl, rfl, rfl, rfl, rfl, rfl, rfl, rfl, .refl _⟩

theorem setWeigh (s : State) (w : Weigh) : SessionFrame s (s.setWeigh w) :=
  ⟨rfl, rfl, rfl, rfl, rfl, rfl, rfl, rfl, .refl _⟩

theorem setSamp (s : State) (m : Sampler) : SessionFrame s (s.setSamp m) :=
  ⟨rfl, rfl, rfl, rfl, rfl, rfl, rfl, rfl, .refl _⟩

end SessionFrame

variable (s : State)

/-- R114: a change of spin state sets it and gives one STATE report. -/
theorem State.enter_eq (new : SpinState) (reason : StateReason) :
    s.enter new reason = giveReport
      (.state ⟨new, s.spin.state, reason, s.spin.dwell, s.spin.dest, s.spin.dir, s.spin.target,
        s.spin.ceiling, s.spin.demand⟩) (s.setSpin { s.spin with state := new }) := rfl

theorem State.enter_frame (new : SpinState) (reason : StateReason) :
    SessionFrame s (s.enter new reason) :=
  (SessionFrame.setSpin s _).trans (.report _ _)

@[simp] theorem State.enter_spin (new : SpinState) (reason : StateReason) :
    (s.enter new reason).spin = { s.spin with state := new } := rfl
@[simp] theorem State.enter_est (new : SpinState) (reason : StateReason) :
    (s.enter new reason).est = s.est := rfl
@[simp] theorem State.enter_cham (new : SpinState) (reason : StateReason) :
    (s.enter new reason).cham = s.cham := rfl
@[simp] theorem State.enter_weigh (new : SpinState) (reason : StateReason) :
    (s.enter new reason).weigh = s.weigh := rfl
@[simp] theorem State.enter_rot (new : SpinState) (reason : StateReason) :
    (s.enter new reason).rot = s.rot := rfl

theorem State.discardWeighing_frame : SessionFrame s s.discardWeighing := by
  unfold State.discardWeighing
  split
  · exact (SessionFrame.setWeigh s _).trans (.setSamp _ _)
  · exact .refl s

theorem State.discardWeighing_spin : s.discardWeighing.spin = s.spin := by
  unfold State.discardWeighing; split <;> rfl

theorem State.leavePlateau_frame : SessionFrame s s.leavePlateau := by
  unfold State.leavePlateau
  refine SessionFrame.trans ?_ (.setEst _ _)
  split
  · exact .ofWater s.stopPlanFills_frame
  · exact .refl s

theorem State.leavePlateau_spin : s.leavePlateau.spin = s.spin := by
  unfold State.leavePlateau
  split
  · exact s.stopPlanFills_frame.spin
  · rfl

/-- R33, R41: leaving for a ramp or a close drops the window and the pre-fill record. -/
theorem State.leavePlateau_est : s.leavePlateau.est.window = [] ∧ s.leavePlateau.est.m = 0
    ∧ s.leavePlateau.est.preFill = none := ⟨rfl, rfl, rfl⟩

theorem State.startRamping_frame (i : Nat) (dir : Dir) (reason : StateReason) :
    SessionFrame s (s.startRamping i dir reason) :=
  ((s.leavePlateau_frame.trans (.setSpin _ _)).trans (.setSpin _ _)).trans
    (State.enter_frame _ _ _)

theorem State.startRetreating_frame (i : Nat) (reason : StateReason) :
    SessionFrame s (s.startRetreating i reason) :=
  ((s.leavePlateau_frame.trans (.setSpin _ _)).trans (.setSpin _ _)).trans
    (State.enter_frame _ _ _)

theorem State.arrive_frame (i : Nat) : SessionFrame s (s.arrive i) :=
  (SessionFrame.setSpin s _).trans (State.enter_frame _ _ _)

theorem State.fillEnd_frame : SessionFrame s s.fillEnd := by
  unfold State.fillEnd
  split
  · exact (SessionFrame.setSpin s _).trans (State.enter_frame _ _ _)
  · exact .refl s

theorem State.fillEndIfDone_frame (b : Bool) : SessionFrame s (s.fillEndIfDone b) := by
  unfold State.fillEndIfDone
  split
  · exact s.fillEnd_frame
  · exact .refl s

theorem State.finishOrder_frame (r : EndReason) : SessionFrame s (s.finishOrder r) :=
  (SessionFrame.ofWater (s.endAndGoOn_frame r)).trans (State.fillEndIfDone_frame _ _)

theorem State.speedEnd_frame : SessionFrame s s.speedEnd :=
  (SessionFrame.ofWater (s.endAll_frame _)).trans (State.fillEndIfDone_frame _ _)

theorem State.speedChanged_frame (old : Nat) : SessionFrame s (s.speedChanged old) := by
  unfold State.speedChanged
  split
  · split
    · exact s.speedEnd_frame
    · exact .refl s
  · exact .refl s

theorem State.endSession_frame : SessionFrame s s.endSession :=
  (((SessionFrame.setSpin s _).trans (State.enter_frame _ _ _)).trans (.report _ _)).trans
    (.setEst _ _)

theorem State.endIfStopped_frame : SessionFrame s s.endIfStopped := by
  unfold State.endIfStopped
  split
  · exact s.endSession_frame
  · exact .refl s

theorem State.enterWinddown_frame (c : Cause) : SessionFrame s (s.enterWinddown c) :=
  (((s.leavePlateau_frame.trans (State.discardWeighing_frame _)).trans (.setSpin _ _)).trans
    (State.enter_frame _ _ _)).trans (State.endIfStopped_frame _)

theorem State.enterAborting_frame (c : Cause) : SessionFrame s (s.enterAborting c) :=
  (((s.leavePlateau_frame.trans (State.discardWeighing_frame _)).trans (.setSpin _ _)).trans
    (State.enter_frame _ _ _)).trans (State.endIfStopped_frame _)

theorem State.abortOn_frame (c : Cause) : SessionFrame s (s.abortOn c) := by
  unfold State.abortOn
  split
  · exact s.enterAborting_frame c
  · exact .refl s

theorem State.closeActive_frame (c : Cause) : SessionFrame s (s.closeActive c) := by
  unfold State.closeActive
  split
  · exact s.enterWinddown_frame c
  · exact .refl s

theorem State.lowerCeiling_frame (n : Nat) (c : CeilingCause) :
    SessionFrame s (s.lowerCeiling n c) :=
  (SessionFrame.setSpin s _).trans (.report _ _)

theorem State.stoppedEvent_frame : SessionFrame s s.stoppedEvent := by
  unfold State.stoppedEvent
  split
  · exact s.enterAborting_frame _
  · exact s.enterAborting_frame _
  · exact s.enterAborting_frame _
  · exact s.enterAborting_frame _
  · exact s.enterAborting_frame _
  · exact .refl s
  · exact s.endSession_frame
  · exact s.endSession_frame
  · exact .refl s

/-- R134, R138: after an abort the state is ABORTING, or IDLE when the basket stands already. -/
theorem State.enterAborting_state (c : Cause) :
    (s.enterAborting c).spin.state = if s.rot.stopped then .idle else .aborting := by
  have h : s.leavePlateau.discardWeighing.rot = s.rot :=
    (s.leavePlateau_frame.trans (State.discardWeighing_frame _)).rot
  simp only [State.enterAborting, State.endIfStopped, State.enter_rot, State.setSpin_rot, h]
  split <;> rfl

/-- R136, R138: the same for a winddown. -/
theorem State.enterWinddown_state (c : Cause) :
    (s.enterWinddown c).spin.state = if s.rot.stopped then .idle else .winddown := by
  have h : s.leavePlateau.discardWeighing.rot = s.rot :=
    (s.leavePlateau_frame.trans (State.discardWeighing_frame _)).rot
  simp only [State.enterWinddown, State.endIfStopped, State.enter_rot, State.setSpin_rot, h]
  split <;> rfl

end Sys2Proof.Machine
end

