-- ==== Sys2Proof/Laws/Table.lean ====
section
/-! SUPPORT. The Influence Table's updates seen through its reads: slots, marks, entries, and the frame of a lookup. -/

namespace Sys2Proof.Machine

variable {α : Type} {n : Nat}

theorem tget_tset_self (v : Vector α n) {i : Nat} (h : i < n) (x d : α) :
    tget (tset v i x) i d = x := by
  simp [tget, tset, h]

theorem tget_tset_ne (v : Vector α n) {i j : Nat} (h : i ≠ j) (x d : α) :
    tget (tset v i x) j d = tget v j d := by
  simp [tget, tset, h]

variable (t : Table)

theorem Table.mark_marks_self (set : TableSet) {i : Nat} (h : i < 12) (b : Bool) :
    tget ((t.mark set i b).marks set) i false = b := by
  cases set <;> exact tget_tset_self _ h b false

theorem Table.mark_marks_ne (set : TableSet) {i j : Nat} (h : i ≠ j) (b : Bool) :
    tget ((t.mark set i b).marks set) j false = tget (t.marks set) j false := by
  cases set <;> exact tget_tset_ne _ h b false

theorem Table.mark_marks_other (set : TableSet) (i : Nat) (b : Bool) :
    (t.mark set i b).marks set.other = t.marks set.other := by
  cases set <;> rfl

@[simp] theorem Table.mark_active (set : TableSet) (i : Nat) (b : Bool) :
    (t.mark set i b).active = t.active := by cases set <;> rfl
@[simp] theorem Table.mark_flush (set : TableSet) (i : Nat) (b : Bool) :
    (t.mark set i b).flush = t.flush := by cases set <;> rfl
@[simp] theorem Table.mark_slots (set : TableSet) (i : Nat) (b : Bool) :
    (t.mark set i b).slots = t.slots := by cases set <;> rfl
@[simp] theorem Table.mark_baseline (set : TableSet) (i : Nat) (b : Bool) :
    (t.mark set i b).baseline = t.baseline := by cases set <;> rfl
@[simp] theorem Table.mark_loaded (set : TableSet) (i : Nat) (b : Bool) :
    (t.mark set i b).loaded = t.loaded := by cases set <;> rfl
@[simp] theorem Table.mark_history (set : TableSet) (i : Nat) (b : Bool) :
    (t.mark set i b).history = t.history := by cases set <;> rfl

@[simp] theorem TableSet.other_other (set : TableSet) : set.other.other = set := by
  cases set <;> rfl

/-- R72, R84: a stored slot holds the coefficient with a check that agrees, and is valid. -/
theorem Table.store_spec {i : Nat} (h : i < 12) (c : Fin 4) (k : Pair) :
    (t.store i c k).slot i = Slot.sound c k ∧ (t.store i c k).valid i = true := by
  constructor
  · simp only [Table.slot, Table.store, Table.mark_slots]
    exact tget_tset_self _ h _ _
  · simp only [Table.valid, Table.store, Table.mark_active]
    exact Table.mark_marks_self _ _ h true

/-- R62: the check of a slot written soundly agrees, and that of one written wrongly does not. -/
theorem Slot.sound_agrees (c : Fin 4) (k : Pair) : (Slot.sound c k).agrees = true := by
  simp [Slot.sound, Slot.agrees]

/-- R76: the history never holds more than 6 entries. -/
theorem Table.remember_length (i : Nat) (h : Hit) : (t.remember i h).history.length ≤ 6 := by
  simp only [Table.remember, List.length_take]; omega

/-- R77, R79: a flush in QUIET switches, in CLEARING it is pending, and a second pending one is
absorbed. -/
theorem Table.flushNow_quiet (now : Stamp) (h : t.flush = .quiet) : t.flushNow now = t.switch now := by
  simp [Table.flushNow, h]

theorem Table.flushNow_pending (now : Stamp) (h : t.flush.isPending = true) : t.flushNow now = t := by
  unfold Table.flushNow
  split <;> simp_all [FlushState.isPending]

/-- What a lookup may touch: the table and, for a table error, the report queue. -/
structure LookupFrame (s u : State) : Prop where
  others : ∃ tb l, u = (s.setTable tb).setLink l
  link : LinkFrame s.link u.link

theorem LookupFrame.refl (s : State) : LookupFrame s s := ⟨⟨s.table, s.link, rfl⟩, .refl _⟩

theorem LookupFrame.trans {a b c : State} (h : LookupFrame a b) (k : LookupFrame b c) :
    LookupFrame a c := by
  obtain ⟨⟨t1, l1, rfl⟩, h2⟩ := h
  obtain ⟨⟨t2, l2, rfl⟩, k2⟩ := k
  exact ⟨⟨t2, l2, rfl⟩, h2.trans k2⟩

theorem LookupFrame.setTable (s : State) (v : Table) : LookupFrame s (s.setTable v) :=
  ⟨⟨v, s.link, rfl⟩, .refl _⟩

theorem LookupFrame.report (s : State) (r : Report) : LookupFrame s (giveReport r s) :=
  ⟨⟨s.table, s.link.giveReport r, rfl⟩, s.link.giveReport_frame r⟩

theorem State.integrityError_frame (s : State) (i : Nat) (c : Fin 4) :
    LookupFrame s (s.integrityError i c).1 := by
  unfold State.integrityError
  dsimp only
  split
  · exact (LookupFrame.setTable s _).trans (.setTable _ _)
  · exact ((LookupFrame.setTable s _).trans (.setTable _ _)).trans (.report _ _)
  · exact (LookupFrame.setTable s _).trans (.report _ _)

/-- R67: a lookup touches the table alone, but for the report of an integrity error. -/
theorem State.lookup_frame (s : State) (i : Nat) (c : Fin 4) :
    LookupFrame s (s.lookup i c).1 := by
  unfold State.lookup
  split
  · exact .setTable s _
  · exact .setTable s _
  · exact .setTable s _
  · exact s.integrityError_frame i c
  · exact (LookupFrame.setTable s _).trans (.setTable _ _)

/-- R100: so do the lookups of a decision. -/
theorem State.lookups_frame (s : State) (c : Fin 4) (is : List Nat) :
    LookupFrame s (s.lookups c is).1 := by
  induction is generalizing s with
  | nil => exact .refl s
  | cons i rest ih =>
    have h := s.lookup_frame i c
    rw [State.lookups]
    split
    · rename_i heq; rw [heq] at h; exact h
    · rename_i s1 k heq
      rw [heq] at h
      have h2 := h.trans (ih s1)
      split <;> (rename_i heq2; rw [heq2] at h2; exact h2)

end Sys2Proof.Machine
end

