-- ==== Sys2Proof/Laws/Decision.lean ====
section
/-! SUPPORT. What taking a revolution record may touch (05, 06): time, rotation, trace queue, service mode and the model's own
fields stay. -/

namespace Sys2Proof.Machine

/-- The frame of a record's hand-off to the Weigh Unit and the Spin Controller. -/
structure RecordFrame (s t : State) : Prop where
  time : t.time = s.time
  pins : t.pins = s.pins
  rot : t.rot = s.rot
  trace : t.trace = s.trace
  serv : t.serv = s.serv
  draw : t.draw = s.draw
  pending : t.pending = s.pending
  link : LinkFrame s.link t.link

namespace RecordFrame

theorem refl (s : State) : RecordFrame s s := ⟨rfl, rfl, rfl, rfl, rfl, rfl, rfl, .refl _⟩

theorem trans {a b c : State} (h : RecordFrame a b) (k : RecordFrame b c) : RecordFrame a c where
  time := k.time.trans h.time
  pins := k.pins.trans h.pins
  rot := k.rot.trans h.rot
  trace := k.trace.trans h.trace
  serv := k.serv.trans h.serv
  draw := k.draw.trans h.draw
  pending := k.pending.trans h.pending
  link := h.link.trans k.link

theorem ofSession {s t : State} (h : SessionFrame s t) : RecordFrame s t :=
  ⟨h.time, h.pins, h.rot, h.trace, h.serv, h.draw, h.pending, h.link⟩

theorem ofWater {s t : State} (h : WaterFrame s t) : RecordFrame s t := .ofSession (.ofWater h)

theorem ofLookup {s t : State} (h : LookupFrame s t) : RecordFrame s t := by
  obtain ⟨⟨tb, l, rfl⟩, h2⟩ := h
  exact ⟨rfl, rfl, rfl, rfl, rfl, rfl, rfl, h2⟩

theorem report (s : State) (r : Report) : RecordFrame s (giveReport r s) :=
  .ofSession (.report s r)

theorem setTable (s : State) (t : Table) : RecordFrame s (s.setTable t) :=
  ⟨rfl, rfl, rfl, rfl, rfl, rfl, rfl, .refl _⟩

theorem setSpin (s : State) (p : Spin) : RecordFrame s (s.setSpin p) := .ofSession (.setSpin s p)

theorem setEst (s : State) (e : Estimator) : RecordFrame s (s.setEst e) := .ofSession (.setEst s e)

theorem setWeigh (s : State) (w : Weigh) : RecordFrame s (s.setWeigh w) :=
  .ofSession (.setWeigh s w)

theorem setSamp (s : State) (m : Sampler) : RecordFrame s (s.setSamp m) :=
  .ofSession (.setSamp s m)

end RecordFrame

variable (s : State)

theorem State.takeLearned_frame (c : Fin 4) (o : LearnOutcome) :
    RecordFrame s (s.takeLearned c o) := by
  unfold State.takeLearned
  split
  · exact .refl s
  · refine RecordFrame.trans ?_ (.report _ _)
    split
    · exact .setTable s _
    · exact .refl s

theorem State.learningStep_frame (c : Fin 4) (a : Pair) :
    RecordFrame s (s.learningStep c a).1 := by
  unfold State.learningStep
  split
  · exact .refl s
  · exact (RecordFrame.setEst s _).trans (State.takeLearned_frame _ _ _)

theorem State.applyChoice_frame (i : Nat) (a k : Pair) (size : Nat) (d : Decided) :
    RecordFrame s (s.applyChoice i a k size d) := by
  unfold State.applyChoice
  split
  · exact .ofSession (s.startRamping_frame _ _ _)
  · exact ((RecordFrame.setEst s _).trans (.ofWater (State.takeOrders_frame _ _))).trans
      (.ofSession (State.enter_frame _ _ _))
  · exact .setEst s _
  · exact (RecordFrame.ofSession (s.lowerCeiling_frame _ _)).trans (.setEst _ _)
  · exact .ofSession (s.startRetreating_frame _ _)
  · exact (RecordFrame.ofSession (s.lowerCeiling_frame _ _)).trans
      (.ofSession (State.startRetreating_frame _ _ _))
  · exact (RecordFrame.report s _).trans (.ofSession (State.enterWinddown_frame _ _))
  · exact .ofSession (s.enterWinddown_frame _)

theorem State.decideWith_frame (i goal : Nat) (d : Option Nat) (w : ReadyWindow)
    (learned : Learned) (k : Pair) (above : List StepK) :
    RecordFrame s (s.decideWith i goal d w learned k above) :=
  (((RecordFrame.setEst s _).trans (.setSpin _ _)).trans (.report _ _)).trans
    (State.applyChoice_frame _ _ _ _ _ _)

/-- A lookup chain's frame, from its result. -/
theorem State.lookups_frame_of {s u : State} {c : Fin 4} {is : List Nat}
    {ks : Option (List StepK)} (h : s.lookups c is = (u, ks)) : LookupFrame s u := by
  have f := s.lookups_frame c is
  rwa [h] at f

theorem State.decisionEvent_frame (w : ReadyWindow) : RecordFrame s (s.decisionEvent w) := by
  unfold State.decisionEvent
  dsimp only
  have f1 := s.learningStep_frame (s.weigh.cls.getD 0) w.avg
  split
  · rename_i h
    exact (f1.trans (.ofLookup (State.lookups_frame_of h))).trans
      (.ofSession (State.enterAborting_frame _ _))
  · rename_i h
    exact f1.trans (.ofLookup (State.lookups_frame_of h))
  · rename_i h
    exact (f1.trans (.ofLookup (State.lookups_frame_of h))).trans
      (State.decideWith_frame _ _ _ _ _ _ _ _)

theorem State.windowStep_frame (n : RevNum) : RecordFrame s (s.windowStep n) := by
  unfold State.windowStep
  dsimp only
  split
  · exact .refl s
  split
  · exact s.decisionEvent_frame _
  split
  · exact .setEst s _
  · exact s.decisionEvent_frame _

theorem State.measuringRecord_frame (r : RevRecord) : RecordFrame s (s.measuringRecord r) := by
  unfold State.measuringRecord
  dsimp only
  split
  · exact ((RecordFrame.setEst s _).trans (.setEst _ _)).trans (State.windowStep_frame _ _)
  · exact .setEst s _

theorem State.completionTest_frame (r : RevRecord) : RecordFrame s (s.completionTest r) := by
  unfold State.completionTest
  dsimp only
  split
  · split
    · exact (RecordFrame.setSpin s _).trans (.ofSession (State.arrive_frame _ _))
    · exact .setSpin s _
  · exact .setSpin s _

theorem State.rampingRecord_frame (r : RevRecord) : RecordFrame s (s.rampingRecord r) := by
  unfold State.rampingRecord
  dsimp only
  split
  · exact (RecordFrame.setSpin s _).trans (.ofSession (State.startRetreating_frame _ _ _))
  · exact s.completionTest_frame r

theorem State.balancingRecord_frame (r : RevRecord) : RecordFrame s (s.balancingRecord r) := by
  unfold State.balancingRecord
  dsimp only
  split
  · split
    · exact (RecordFrame.setSpin s _).trans (.ofSession (State.startRetreating_frame _ _ _))
    · exact ((RecordFrame.ofWater s.stopPlanFills_frame).trans (.setSpin _ _)).trans
        (.ofSession (State.enter_frame _ _ _))
  · exact .refl s

theorem State.settlingRecord_frame (r : RevRecord) : RecordFrame s (s.settlingRecord r) := by
  unfold State.settlingRecord
  dsimp only
  split
  · split
    · exact (RecordFrame.setSpin s _).trans (.ofSession (State.enter_frame _ _ _))
    · exact .setSpin s _
  · exact .refl s

theorem State.endWeighing_frame (e : Weigh × WeighedReport) :
    RecordFrame s (s.endWeighing e) :=
  ((RecordFrame.setWeigh s _).trans (.report _ _)).trans
    (.ofSession (State.startRamping_frame _ _ _ _))

theorem State.weighingRecord_frame (r : RevRecord) : RecordFrame s (s.weighingRecord r) := by
  unfold State.weighingRecord
  dsimp only
  split
  · exact (RecordFrame.setWeigh s _).trans (State.endWeighing_frame _ _)
  · exact .setWeigh s _

/-- R14: the use of a record by Weigh Unit, Spin Controller and estimator. -/
theorem State.takeRecord_frame (r : RevRecord) : RecordFrame s (s.takeRecord r) := by
  unfold State.takeRecord
  split
  · exact s.weighingRecord_frame r
  · exact s.rampingRecord_frame r
  · exact s.completionTest_frame r
  · exact s.settlingRecord_frame r
  · exact s.measuringRecord_frame r
  · exact s.balancingRecord_frame r
  · exact .refl s
  · exact .refl s
  · exact .refl s

/-! ## Arithmetic of an estimate (R35, R36, R46) -/

/-- R46: both components of an estimate lie within ±8000. -/
theorem estimateU_bounds (k a : Pair) :
    -8000 ≤ (estimateU k a).re ∧ (estimateU k a).re ≤ 8000
      ∧ -8000 ≤ (estimateU k a).im ∧ (estimateU k a).im ≤ 8000 := by
  have h := fun v => saturate_mem (lo := -8000) (hi := 8000) (by omega) v
  exact ⟨(h _).1, (h _).2, (h _).1, (h _).2⟩

theorem prediction_le (size : Nat) (k : Pair) : prediction size k ≤ 65535 := Nat.min_le_left _ _

end Sys2Proof.Machine
end

