-- ==== Sys2Proof/Laws/Rotation.lean ====
section
/-! SUPPORT. What the commands of the basket, the timers and the water may touch: time, input levels, service mode and the
model's own fields stay, and the Link Port is only given reports. -/

namespace Sys2Proof.Machine

/-- The frame of every command outside the Link Port, but for the levels of SVC and DFLT and service
mode. -/
structure BlockFrame (s t : State) : Prop where
  time : t.time = s.time
  pins : t.pins = s.pins
  serv : t.serv = s.serv
  draw : t.draw = s.draw
  pending : t.pending = s.pending
  link : LinkFrame s.link t.link

namespace BlockFrame

theorem refl (s : State) : BlockFrame s s := ⟨rfl, rfl, rfl, rfl, rfl, .refl _⟩

theorem trans {a b c : State} (h : BlockFrame a b) (k : BlockFrame b c) : BlockFrame a c where
  time := k.time.trans h.time
  pins := k.pins.trans h.pins
  serv := k.serv.trans h.serv
  draw := k.draw.trans h.draw
  pending := k.pending.trans h.pending
  link := h.link.trans k.link

theorem ofRecord {s t : State} (h : RecordFrame s t) : BlockFrame s t :=
  ⟨h.time, h.pins, h.serv, h.draw, h.pending, h.link⟩

theorem ofSession {s t : State} (h : SessionFrame s t) : BlockFrame s t := .ofRecord (.ofSession h)

theorem ofWater {s t : State} (h : WaterFrame s t) : BlockFrame s t := .ofRecord (.ofWater h)

theorem setRot (s : State) (v : Rotation) : BlockFrame s (s.setRot v) :=
  ⟨rfl, rfl, rfl, rfl, rfl, .refl _⟩

theorem setSamp (s : State) (v : Sampler) : BlockFrame s (s.setSamp v) :=
  ⟨rfl, rfl, rfl, rfl, rfl, .refl _⟩

theorem setWeigh (s : State) (v : Weigh) : BlockFrame s (s.setWeigh v) :=
  ⟨rfl, rfl, rfl, rfl, rfl, .refl _⟩

theorem setCham (s : State) (v : ChamberCtl) : BlockFrame s (s.setCham v) :=
  ⟨rfl, rfl, rfl, rfl, rfl, .refl _⟩

theorem setTable (s : State) (v : Table) : BlockFrame s (s.setTable v) :=
  ⟨rfl, rfl, rfl, rfl, rfl, .refl _⟩

theorem setTrace (s : State) (v : TraceQueue) : BlockFrame s (s.setTrace v) :=
  ⟨rfl, rfl, rfl, rfl, rfl, .refl _⟩

theorem report (s : State) (r : Report) : BlockFrame s (giveReport r s) :=
  .ofRecord (.report s r)

end BlockFrame

variable (s : State)

theorem State.torqueAssigned_frame (q : Option Nat) : BlockFrame s (s.torqueAssigned q) := by
  unfold State.torqueAssigned
  dsimp only
  split
  · split
    · exact (BlockFrame.setSamp s _).trans (.setWeigh _ _)
    · exact .setSamp s _
  · exact .setSamp s _

theorem State.joinPending_frame : BlockFrame s s.joinPending := by
  unfold State.joinPending
  split
  · exact .refl s
  · split
    · exact ((BlockFrame.setRot s _).trans (.setSamp _ _)).trans (State.torqueAssigned_frame _ _)
    · exact (BlockFrame.setRot s _).trans (.setSamp _ _)

theorem State.discardRevolution_frame : BlockFrame s s.discardRevolution :=
  (BlockFrame.setRot s _).trans (.setSamp _ _)

theorem State.traceRevolution_frame (r : RevRecord) : BlockFrame s (s.traceRevolution r) := by
  unfold State.traceRevolution
  split
  · exact .refl s
  · exact .setTrace s _

theorem State.handOff_frame (old : Nat) (r : RevRecord) : BlockFrame s (s.handOff old r) := by
  unfold State.handOff
  dsimp only
  split
  · exact ((s.traceRevolution_frame r).trans (.ofSession (State.speedChanged_frame _ _))).trans
      (.ofRecord (State.takeRecord_frame _ _))
  · exact ((s.traceRevolution_frame r).trans (.ofRecord (State.takeRecord_frame _ _))).trans
      (.ofSession (State.speedChanged_frame _ _))

theorem State.openRevolution_frame (l : Look) : BlockFrame s (s.openRevolution l) := by
  unfold State.openRevolution
  split
  · exact (BlockFrame.setRot s _).trans (.setSamp _ _)
  · exact .setRot s _

theorem State.indexEdge_frame (b : Bool) : BlockFrame s (s.indexEdge b) := by
  unfold State.indexEdge
  dsimp only
  split
  · exact (s.openRevolution_frame _).trans (State.torqueAssigned_frame _ _)
  · exact ((((BlockFrame.setRot s _).trans (.setSamp _ _)).trans
      (State.openRevolution_frame _ _)).trans (State.handOff_frame _ _ _)).trans
      (State.torqueAssigned_frame _ _)

theorem State.strikeEvent_frame (x y : Int) (m : Nat) : BlockFrame s (s.strikeEvent x y m) := by
  unfold State.strikeEvent
  split
  · split
    · exact .refl s
    · exact (BlockFrame.setSamp s _).trans (.report _ _)
  · exact .ofSession (s.abortOn_frame _)

theorem State.sensorEvent_frame : BlockFrame s s.sensorEvent := by
  unfold State.sensorEvent
  split
  · exact .report s _
  · exact .ofSession (s.abortOn_frame _)

theorem State.indexLossEvent_frame : BlockFrame s s.indexLossEvent := by
  unfold State.indexLossEvent
  split
  · exact .report s _
  · exact .ofSession (s.abortOn_frame _)

theorem State.indexLoss_frame : BlockFrame s s.indexLoss :=
  (s.discardRevolution_frame.trans (.setRot _ _)).trans (State.indexLossEvent_frame _)

theorem State.countSlotEdge_frame : BlockFrame s s.countSlotEdge := by
  unfold State.countSlotEdge
  dsimp only
  split
  · exact (BlockFrame.setRot s _).trans (State.indexLoss_frame _)
  · exact .setRot s _

theorem State.countInvalid_frame : BlockFrame s s.countInvalid := by
  unfold State.countInvalid
  dsimp only
  split
  · exact (BlockFrame.setSamp s _).trans (State.sensorEvent_frame _)
  · exact .setSamp s _

theorem State.readDone_frame (dest : ReadDest) (p : Sample) : BlockFrame s (s.readDone dest p) := by
  unfold State.readDone
  dsimp only
  split
  · split
    · exact (((BlockFrame.setSamp s _).trans (.setSamp _ _)).trans (.setRot _ _)).trans
        (State.strikeEvent_frame _ _ _ _)
    · exact ((BlockFrame.setSamp s _).trans (.setSamp _ _)).trans (.setRot _ _)
  · exact ((BlockFrame.setSamp s _).trans (.setRot _ _)).trans (State.countInvalid_frame _)
  · exact .setSamp s _

theorem State.conversionDone_frame (dest : TorqueDest) (t : Nat) :
    BlockFrame s (s.conversionDone dest t) := by
  unfold State.conversionDone
  dsimp only
  split
  · exact (BlockFrame.setSamp s _).trans (.setWeigh _ _)
  · exact (BlockFrame.setSamp s _).trans (.setWeigh _ _)
  · exact (BlockFrame.setSamp s _).trans (.setRot _ _)
  · exact .setSamp s _

theorem State.timeSlotEdge_frame : BlockFrame s s.timeSlotEdge :=
  (BlockFrame.setRot s _).trans (.ofSession (State.speedChanged_frame _ _))

theorem State.placeSlotEdge_frame (l : Look) (climb : Bool) :
    BlockFrame s (s.placeSlotEdge l climb) := by
  unfold State.placeSlotEdge
  split
  · exact (BlockFrame.setRot s _).trans (.setSamp _ _)
  · exact (s.joinPending_frame.trans (.setRot _ _)).trans (.setSamp _ _)

theorem State.weighSlotEdge_frame : BlockFrame s s.weighSlotEdge := .setWeigh s _

theorem State.slotEdge_frame : BlockFrame s s.slotEdge := by
  unfold State.slotEdge
  dsimp only
  refine BlockFrame.trans ?_ (State.countSlotEdge_frame _)
  split
  · exact ((s.timeSlotEdge_frame.trans (State.placeSlotEdge_frame _ _ _)).trans
      (State.weighSlotEdge_frame _)).trans (State.countInvalid_frame _)
  · exact (s.timeSlotEdge_frame.trans (State.placeSlotEdge_frame _ _ _)).trans
      (State.weighSlotEdge_frame _)

theorem State.stopBasket_frame : BlockFrame s s.stopBasket :=
  (s.discardRevolution_frame.trans (.setRot _ _)).trans (.setSamp _ _)

theorem State.standstill_frame : BlockFrame s s.standstill := by
  unfold State.standstill
  dsimp only
  split
  · exact (s.stopBasket_frame.trans (.ofSession (State.speedChanged_frame _ _))).trans
      (.ofSession (State.stoppedEvent_frame _))
  · exact (s.stopBasket_frame.trans (.ofSession (State.stoppedEvent_frame _))).trans
      (.ofSession (State.speedChanged_frame _ _))

/-! ## Timers of a session and of the water -/

theorem State.weighLimit_frame : BlockFrame s s.weighLimit := by
  unfold State.weighLimit
  split
  · exact .refl s
  · exact .ofRecord (s.endWeighing_frame _)

theorem State.rampTimeout_frame : BlockFrame s s.rampTimeout := by
  unfold State.rampTimeout
  dsimp only
  split
  · exact (BlockFrame.ofSession (s.lowerCeiling_frame _ _)).trans
      (.ofSession (State.startRetreating_frame _ _ _))
  · exact .ofSession (s.abortOn_frame _)

theorem State.durationEnds_frame : BlockFrame s s.durationEnds :=
  .ofSession (s.closeActive_frame _)

theorem State.clearStep_frame : BlockFrame s s.clearStep := .setTable s _

theorem State.meterPulse_frame (f : Flight) : BlockFrame s (s.meterPulse f) := by
  unfold State.meterPulse
  dsimp only
  split
  · exact (BlockFrame.setCham s _).trans (.ofSession (State.finishOrder_frame _ _))
  · exact .setCham s _

theorem State.flowPulse_frame : BlockFrame s s.flowPulse := by
  unfold State.flowPulse
  split
  · exact s.meterPulse_frame _
  · exact .ofWater s.leakPulse_frame

theorem State.bleed_frame : BlockFrame s s.bleed := by
  unfold State.bleed
  dsimp only
  split <;> exact .setCham s _

theorem State.supplyTimeout_frame : BlockFrame s s.supplyTimeout := by
  unfold State.supplyTimeout
  split
  · exact (((BlockFrame.ofWater (s.endAll_frame _)).trans (.setCham _ _)).trans
      (.report _ _)).trans (.ofSession (State.fillEndIfDone_frame _ _))
  · exact .refl s

/-! ## The sensor port (R18) -/

/-- R18: of n cycles from `first` on, the last gives bit 0 of the code and each earlier one the next bit. -/
theorem shiftIn_bit (line : Nat → Bool) (first n i : Nat) (h : i < 12) :
    (shiftIn line first n).getLsbD i = (decide (i < n) && line (first + (n - 1 - i))) := by
  induction n generalizing i with
  | zero => simp [shiftIn]
  | succ n ih =>
    rw [shiftIn, BitVec.getLsbD_or, BitVec.getLsbD_shiftLeft]
    cases i with
    | zero => simp
    | succ i =>
      rw [show i + 1 - 1 = i from rfl, ih i (by omega), show n + 1 - 1 - (i + 1) = n - 1 - i by omega]
      simp [h]

/-- The 12 bits taken in cycles 9 to 20 are x. -/
theorem shiftIn_sensorLevel_x (x y : BitVec 12) : shiftIn (sensorLevel x y) 9 12 = x := by
  refine BitVec.eq_of_getLsbD_eq fun i h => ?_
  rw [shiftIn_bit _ _ _ _ h, sensorLevel, if_pos (by omega), show 20 - (9 + (12 - 1 - i)) = i by omega]
  simp [h]

/-- The 12 bits taken in cycles 21 to 32 are y. -/
theorem shiftIn_sensorLevel_y (x y : BitVec 12) : shiftIn (sensorLevel x y) 21 12 = y := by
  refine BitVec.eq_of_getLsbD_eq fun i h => ?_
  rw [shiftIn_bit _ _ _ _ h, sensorLevel, if_neg (by omega), show 32 - (21 + (12 - 1 - i)) = i by omega]
  simp [h]

/-- A read takes from SDI the pair the sensor sends. -/
@[simp] theorem sdiPair_sensorLevel (x y : BitVec 12) : sdiPair (sensorLevel x y) = samplePair x y := by
  simp only [sdiPair, shiftIn_sensorLevel_x, shiftIn_sensorLevel_y]

end Sys2Proof.Machine
end

