-- ==== Sys2Proof/Laws/Link.lean ====
section
/-! SUPPORT. The Link Port (08): what handling a request may touch, the receive buffer's three cases, the transmitter's
choice. -/

namespace Sys2Proof.Machine

variable (s : State)

/-! ## An octet on the line (R162) -/

/-- R162: bit i of what n data bits deliver is the level of bit i + 1 of the octet's ten. -/
theorem dataBits_bit (line : Nat → Bool) (n i : Nat) (h : n ≤ 8) :
    (dataBits line n).getLsbD i = (decide (i < n) && line (i + 1)) := by
  induction n with
  | zero => simp [dataBits]
  | succ n ih =>
    rw [dataBits, BitVec.getLsbD_or, ih (by omega), BitVec.getLsbD_shiftLeft, BitVec.getLsbD_setWidth,
      BitVec.getLsbD_ofBool]
    rcases Nat.lt_trichotomy i n with hi | hi | hi
    · simp [hi, show i < n + 1 by omega]
    · subst hi; simp [show i < 8 by omega]
    · simp [show ¬ i < n by omega, show ¬ i < n + 1 by omega, show ¬ i - n = 0 by omega]

/-- R162: ten bits with a high stop bit and the data bits of an octet deliver that octet. -/
theorem lineOctet_high {line : Nat → Bool} {o : Octet} (h : line 9 = true)
    (hd : ∀ i, i < 8 → line (i + 1) = o.getLsbD i) : lineOctet line = some o := by
  rw [lineOctet, if_pos h, Option.some.injEq]
  refine BitVec.eq_of_getLsbD_eq fun i hi => ?_
  rw [dataBits_bit _ _ _ (by omega), hd i hi]
  simp [hi]

theorem lineOctet_low {line : Nat → Bool} (h : line 9 = false) : lineOctet line = none := by
  rw [lineOctet, h]; rfl

@[simp] theorem lineOctet_octetLevel (o : Octet) : lineOctet (octetLevel o) = some o :=
  lineOctet_high rfl fun i hi => by simp [octetLevel, show i + 1 ≤ 8 by omega]

@[simp] theorem State.lineEvent_octetLevel (o : Octet) : s.lineEvent (octetLevel o) = s.receive o := by
  rw [State.lineEvent, lineOctet_octetLevel]

theorem State.lineEvent_low {line : Nat → Bool} (h : line 9 = false) :
    s.lineEvent line = s.dropAssembly .line := by
  rw [State.lineEvent, lineOctet_low h]

/-- R162: bit j of the octet k of a frame being sent. -/
theorem Frame.level_octet (f : Frame) {k j : Nat} (hk : k < f.wire.length) (hj : j < 10) :
    f.level (10 * k + j) = octetLevel f.wire[k] j := by
  rw [Frame.level, show (10 * k + j) / 10 = k by omega, show (10 * k + j) % 10 = j by omega,
    List.getElem?_eq_getElem hk]

/-! ## Refusals (R170) -/

@[simp] theorem State.refuse_state (r : ResultCode) : (s.refuse r).state = s := rfl
@[simp] theorem State.refuse_result (r : ResultCode) : (s.refuse r).result = r := rfl
@[simp] theorem State.accept_state (f : List Octet) : (s.accept f).state = s := rfl
@[simp] theorem State.accept_result (f : List Octet) : (s.accept f).result = .ok := rfl
@[simp] theorem State.accept_fields (f : List Octet) : (s.accept f).fields = f := rfl

/-! ## What handling may touch (R168) -/

/-- The frame of the handling of a request: time, input levels and the model's own fields stay; of the
Link Port, the receiver, the receive buffer, the reply slot and the transmitter. -/
structure AnswerFrame (s t : State) : Prop where
  time : t.time = s.time
  pins : t.pins = s.pins
  draw : t.draw = s.draw
  pending : t.pending = s.pending
  fast : t.link.fast = s.link.fast
  rx : t.link.rx = s.link.rx
  gapTimer : t.link.gapTimer = s.link.gapTimer
  inService : t.link.inService = s.link.inService
  waiting : t.link.waiting = s.link.waiting
  replySlot : t.link.replySlot = s.link.replySlot
  tx : t.link.tx = s.link.tx
  room : s.link.reports.length ≤ reportRoom → t.link.reports.length ≤ reportRoom

namespace AnswerFrame

theorem refl (s : State) : AnswerFrame s s :=
  ⟨rfl, rfl, rfl, rfl, rfl, rfl, rfl, rfl, rfl, rfl, rfl, id⟩

theorem trans {a b c : State} (h : AnswerFrame a b) (k : AnswerFrame b c) : AnswerFrame a c where
  time := k.time.trans h.time
  pins := k.pins.trans h.pins
  draw := k.draw.trans h.draw
  pending := k.pending.trans h.pending
  fast := k.fast.trans h.fast
  rx := k.rx.trans h.rx
  gapTimer := k.gapTimer.trans h.gapTimer
  inService := k.inService.trans h.inService
  waiting := k.waiting.trans h.waiting
  replySlot := k.replySlot.trans h.replySlot
  tx := k.tx.trans h.tx
  room := k.room ∘ h.room

theorem ofBlock {s t : State} (h : BlockFrame s t) : AnswerFrame s t :=
  ⟨h.time, h.pins, h.draw, h.pending, h.link.fast, h.link.rx, h.link.gapTimer, h.link.inService,
    h.link.waiting, h.link.replySlot, h.link.tx, h.link.room⟩

theorem setServ (s : State) (v : Service) : AnswerFrame s (s.setServ v) :=
  ⟨rfl, rfl, rfl, rfl, rfl, rfl, rfl, rfl, rfl, rfl, rfl, id⟩

theorem setSpin (s : State) (v : Spin) : AnswerFrame s (s.setSpin v) :=
  ⟨rfl, rfl, rfl, rfl, rfl, rfl, rfl, rfl, rfl, rfl, rfl, id⟩

end AnswerFrame

theorem State.beginSession_frame (t n : Nat) (c : Bool) :
    AnswerFrame s (s.beginSession t n c) := by
  have h0 : AnswerFrame s (s.prepareSession t n c) :=
    ⟨rfl, rfl, rfl, rfl, rfl, rfl, rfl, rfl, rfl, rfl, rfl, id⟩
  have h : AnswerFrame s ((s.prepareSession t n c).enter .weighing .start) :=
    h0.trans (.ofBlock (.ofSession (State.enter_frame (s.prepareSession t n c) _ _)))
  unfold State.beginSession
  dsimp only
  split
  · exact h.trans (.ofBlock (.ofSession (State.abortOn_frame _ _)))
  · exact h

theorem State.applyTarget_frame (t : Nat) : AnswerFrame s (s.applyTarget t) := by
  unfold State.applyTarget
  have hr := AnswerFrame.ofBlock (.ofSession (s.startRetreating_frame t .target))
  split
  · split
    · exact .refl s
    · split
      · exact hr
      · exact .setSpin s _
  · split
    · exact hr
    · exact .refl s
  · split
    · exact hr
    · exact .refl s
  · split
    · exact hr
    · exact .refl s
  all_goals exact .refl s

theorem State.leaveService_frame : AnswerFrame s s.leaveService :=
  (AnswerFrame.setServ s _).trans (.ofBlock (.ofWater (State.endAll_frame _ _)))

theorem State.depositContent_frame (c : Fin 4) (g : Nat) :
    AnswerFrame s (s.depositContent c g) := by
  unfold State.depositContent
  dsimp only
  split
  · exact .ofBlock ((BlockFrame.setCham s _).trans (.ofSession (State.finishOrder_frame _ _)))
  · exact .ofBlock (.setCham s _)

theorem State.stopChamber_frame (c : Fin 4) : AnswerFrame s (s.stopChamber c).1 := by
  unfold State.stopChamber
  split
  · exact .ofBlock (.ofWater (s.endAndGoOn_frame _))
  · split
    · exact .ofBlock ((BlockFrame.setCham s _).trans (.ofWater (State.endUnstarted_frame _ _ _ _)))
    · exact .refl s

/-- R168, R169: handling a request leaves the buffer, the reply slot, the transmitter and the receiver
to the Link Port's own rules. -/
theorem State.ownAnswer_frame (k : RequestKind) (b : List Octet) :
    AnswerFrame s (s.ownAnswer k b).state := by
  cases k
  case identify => exact .refl s
  case status =>
    unfold State.ownAnswer State.answerStatus
    dsimp only
    split
    · exact .refl s
    · exact ⟨rfl, rfl, rfl, rfl, rfl, rfl, rfl, rfl, rfl, rfl, rfl, id⟩
  case restart =>
    unfold State.ownAnswer State.answerRestart
    dsimp only
    split
    · exact .refl s
    · exact ⟨rfl, rfl, rfl, rfl, rfl, rfl, rfl, rfl, rfl, rfl, rfl, id⟩
  case loadLadder =>
    unfold State.ownAnswer State.answerLoadLadder
    dsimp only
    split
    · exact .refl s
    split
    · exact .refl s
    split
    · exact .refl s
    exact ⟨rfl, rfl, rfl, rfl, rfl, rfl, rfl, rfl, rfl, rfl, rfl, id⟩
  case loadParameters =>
    unfold State.ownAnswer State.answerLoadParameters
    dsimp only
    split
    · exact .refl s
    split
    · exact .refl s
    split
    · exact .refl s
    · exact .setSpin s _
  case loadBaseline =>
    unfold State.ownAnswer State.answerLoadBaseline
    dsimp only
    split
    · exact .refl s
    split
    · exact .refl s
    · exact .ofBlock (.setTable s _)
  case flushTable => exact .ofBlock (.setTable s _)
  case startSpin =>
    unfold State.ownAnswer State.answerStartSpin
    dsimp only
    split
    · exact .refl s
    split
    · exact .refl s
    split
    · exact .refl s
    split
    · exact .refl s
    split
    · exact .ofBlock (.setCham s _)
    · exact s.beginSession_frame _ _ _
  case setTarget =>
    unfold State.ownAnswer State.answerSetTarget
    dsimp only
    split
    · exact .refl s
    split
    · exact .refl s
    split
    · exact .refl s
    · exact (AnswerFrame.setSpin s _).trans (State.applyTarget_frame _ _)
  case stop => exact .ofBlock (.ofSession (s.closeActive_frame _))
  case queryEstimate =>
    unfold State.ownAnswer State.answerQueryEstimate
    dsimp only
    split <;> exact .refl s
  case setTrace =>
    unfold State.ownAnswer State.answerSetTrace
    dsimp only
    split
    · exact .refl s
    · exact .ofBlock (.setTrace s _)
  case readTrace =>
    unfold State.ownAnswer State.answerReadTrace
    dsimp only
    split
    · exact .refl s
    split
    · exact .refl s
    · exact .ofBlock (.setTrace s _)
  case serviceEnter =>
    unfold State.ownAnswer State.answerServiceEnter
    dsimp only
    split
    · exact .refl s
    · exact .setServ s _
  case serviceLeave => exact s.leaveService_frame
  case examine =>
    unfold State.ownAnswer State.answerExamine
    dsimp only
    split <;> exact .refl s
  case deposit =>
    unfold State.ownAnswer State.answerDeposit State.answerDepositSlot State.answerDepositChamber
    dsimp only
    split
    · split
      · exact .refl s
      split
      · exact .refl s
      · exact .ofBlock (.setTable s _)
    split
    · split
      · exact .refl s
      · exact s.depositContent_frame _ _
    · exact .refl s
  case manualFill =>
    unfold State.ownAnswer State.answerManualFill
    dsimp only
    split
    · exact .refl s
    split
    · exact .refl s
    split
    · exact .ofBlock (.setCham s _)
    · exact .ofBlock (.ofWater (s.takeOrder_frame _))
  case stopFill =>
    unfold State.ownAnswer State.answerStopFill
    dsimp only
    split
    · exact .refl s
    split
    · exact .ofBlock (.ofWater (s.endAll_frame _))
    · exact s.stopChamber_frame _
  case forceBaseline =>
    unfold State.ownAnswer State.answerForceBaseline
    dsimp only
    split
    · exact .refl s
    · exact .setServ s _

theorem State.answer_frame (k : RequestKind) (b : List Octet) :
    AnswerFrame s (s.answer k b).state := by
  unfold State.answer
  split
  · exact .refl s
  split
  · exact .refl s
  · exact s.ownAnswer_frame k b

theorem State.answerFrame_frame (f : Frame) : AnswerFrame s (s.answerFrame f).1 := by
  unfold State.answerFrame
  split
  · exact s.answer_frame _ _
  · exact .refl s

/-! ## Handling, buffer and transmitter -/

/-- R168, R171: handling puts exactly one reply in the slot. -/
theorem State.handle_replySlot (f : Frame) :
    (s.handle f).link.replySlot = some (s.answerFrame f).2 := rfl

theorem State.handle_pending (f : Frame) : (s.handle f).pending = s.pending :=
  (s.answerFrame_frame f).pending

theorem State.handle_link (f : Frame) :
    (s.handle f).link.rx = s.link.rx ∧ (s.handle f).link.gapTimer = s.link.gapTimer
      ∧ (s.handle f).link.inService = s.link.inService
      ∧ (s.handle f).link.waiting = s.link.waiting ∧ (s.handle f).link.tx = s.link.tx := by
  have h := s.answerFrame_frame f
  exact ⟨h.rx, h.gapTimer, h.inService, h.waiting, h.tx⟩

/-- R167: into an empty buffer a frame goes into service and is handled. -/
theorem State.offerFrame_empty (f : Frame) (h : s.link.inService = none) :
    s.offerFrame f = (s.setLink { s.link with inService := some f }).handle f := by
  simp [State.offerFrame, h]

/-- R167: behind a frame in service it waits. -/
theorem State.offerFrame_wait (f g : Frame) (h : s.link.inService = some g)
    (h2 : s.link.waiting = none) :
    s.offerFrame f = s.setLink { s.link with waiting := some f } := by
  simp [State.offerFrame, h, h2]

/-- R167: with both places full it is discarded. -/
theorem State.offerFrame_full (f g g2 : Frame) (h : s.link.inService = some g)
    (h2 : s.link.waiting = some g2) : s.offerFrame f = s.discard .full := by
  simp [State.offerFrame, h, h2]

theorem State.offerFrame_pending (f : Frame) : (s.offerFrame f).pending = s.pending := by
  unfold State.offerFrame
  split
  · exact State.handle_pending _ _
  · split <;> rfl

/-- R172: a transmitter that is sending goes on. -/
theorem State.arbitrate_busy (h : s.link.tx.isSome = true) : s.arbitrate = s := by
  simp [State.arbitrate, h]

/-- R172: a free transmitter takes the reply first. -/
theorem State.arbitrate_reply {r : Reply} (h : s.link.tx = none) (h2 : s.link.replySlot = some r) :
    s.arbitrate = s.setLink { s.link with tx := some ⟨r.frame, true⟩ } := by
  simp [State.arbitrate, h, h2]

/-- R172: without a reply it takes the oldest report. -/
theorem State.arbitrate_report {e : Report} {rest : List Report} (h : s.link.tx = none)
    (h2 : s.link.replySlot = none) (h3 : s.link.reports = e :: rest) :
    s.arbitrate = s.setLink { s.link with tx := some ⟨e.frame, false⟩, reports := rest } := by
  simp [State.arbitrate, h, h2, h3]

/-- R172, R183: without either it takes the oldest trace record in PUSH delivery. -/
theorem State.arbitrate_trace {q : TraceRecord} {rest : List TraceRecord} (h : s.link.tx = none)
    (h2 : s.link.replySlot = none) (h3 : s.link.reports = []) (h4 : s.trace.push = true)
    (h5 : s.trace.queue = q :: rest) :
    s.arbitrate = (s.setLink { s.link with tx := some ⟨q.frame, false⟩ }).setTrace
      { s.trace with queue := rest } := by
  simp [State.arbitrate, h, h2, h3, h4, h5]

/-- The transmitter's choice touches the Link Port's queues and the trace queue alone. -/
theorem State.arbitrate_parts : ∃ l t, s.arbitrate = (s.setLink l).setTrace t := by
  unfold State.arbitrate
  split
  · exact ⟨s.link, s.trace, rfl⟩
  · split
    · rename_i r _
      exact ⟨{ s.link with tx := some ⟨r.frame, true⟩ }, s.trace, rfl⟩
    · rename_i e rest _ _
      exact ⟨{ s.link with tx := some ⟨e.frame, false⟩, reports := rest }, s.trace, rfl⟩
    · exact ⟨_, _, rfl⟩
    · exact ⟨s.link, s.trace, rfl⟩

@[simp] theorem State.arbitrate_pending : s.arbitrate.pending = s.pending := by
  obtain ⟨l, t, h⟩ := s.arbitrate_parts
  rw [h]; rfl

@[simp] theorem State.arbitrate_spin : s.arbitrate.spin = s.spin := by
  obtain ⟨l, t, h⟩ := s.arbitrate_parts
  rw [h]; rfl

@[simp] theorem State.arbitrate_cham : s.arbitrate.cham = s.cham := by
  obtain ⟨l, t, h⟩ := s.arbitrate_parts
  rw [h]; rfl

@[simp] theorem State.arbitrate_table : s.arbitrate.table = s.table := by
  obtain ⟨l, t, h⟩ := s.arbitrate_parts
  rw [h]; rfl

@[simp] theorem State.arbitrate_rot : s.arbitrate.rot = s.rot := by
  obtain ⟨l, t, h⟩ := s.arbitrate_parts
  rw [h]; rfl

@[simp] theorem State.arbitrate_est : s.arbitrate.est = s.est := by
  obtain ⟨l, t, h⟩ := s.arbitrate_parts
  rw [h]; rfl

@[simp] theorem State.arbitrate_weigh : s.arbitrate.weigh = s.weigh := by
  obtain ⟨l, t, h⟩ := s.arbitrate_parts
  rw [h]; rfl

@[simp] theorem State.arbitrate_serv : s.arbitrate.serv = s.serv := by
  obtain ⟨l, t, h⟩ := s.arbitrate_parts
  rw [h]; rfl

/-! ## Commands -/

/-- Every command ends in the transmitter's choice on its effect. -/
theorem event_eq (w : Wait) (effect : State → State) :
    event w s effect = .next (effect (s.begin w)).arbitrate := rfl

theorem State.whenDue_due {t : Option Timer} (h : timerDue t s.time = true) (e : State → State) :
    s.whenDue t e = e s := by simp [State.whenDue, h]

theorem State.whenDue_early {t : Option Timer} (h : timerDue t s.time = false) (e : State → State) :
    s.whenDue t e = s := by simp [State.whenDue, h]

end Sys2Proof.Machine
end

