-- ==== Sys2Proof/Tests/Slice0.lean ====
section
/-! SUPPORT. Tests with expected results from the manual's tables and worked cases, and a witness for the hypotheses of
each statement of Obligations.lean that has some. -/

namespace Sys2Proof.Tests

-- One theorem at a time: many kernel evaluations at once ask for more threads than the check's memory limit has room for.
set_option Elab.async false

open Sys2Proof Sys2Proof.Machine

/-! ## The standing example (00_scope.md) and small states -/

/-- The standing example's ladder. -/
def ladder : List LadderStep :=
  [⟨70, .dwell, 120⟩, ⟨150, .crossing, 260⟩, ⟨220, .crossing, 240⟩, ⟨320, .dwell, 140⟩,
   ⟨450, .dwell, 120⟩, ⟨600, .dwell, 110⟩, ⟨800, .dwell, 100⟩, ⟨1000, .dwell, 90⟩]

/-- The settings of the standing example with those of the worked sequence of 06. -/
def params : Params :=
  { settleRevs := 4, windowRevs := 4, spreadLimit := 24, strikeLimit := 600,
    redistThreshold := 400, maxAttempts := 3, maxPlans := 2, maxRetreats := 1, holdSpeed := 300,
    bleed := 5, flowCal := 20, planLimit := 300, minFill := 10, ringOffset := 4,
    errorResponse := 1, noiseFloor := 8, weighLow := 40, weighHigh := 60, basketInertia := 380,
    threshold1 := 150, threshold2 := 300, threshold3 := 450, rampAllowance := 8000,
    supplyTimeout := 2000 }

/-- The part with a complete profile, in IDLE, its basket turning. -/
def ready : State :=
  let r := State.reset
  { r with
    spin := { r.spin with ladder := ladder, params := some params }
    rot := { r.rot with stopped := false, standstill := some ⟨0, 500000⟩, speed := 450 }
    table := { r.table with
      loaded := Vector.replicate 12 true
      baseline := Vector.replicate 12 (Vector.replicate 4 ⟨1024, 0⟩) } }

/-- A session at step 4 of the standing example in a state without a ramp. -/
def session (st : SpinState) : State :=
  { ready with
    spin := { ready.spin with
      state := st, target := some 7, ceiling := some 7, dwell := some 4, den := true,
      demand := if st.active then 450 else 0
      sessionTimer := if st.active then some ⟨0, 600000000⟩ else none
      closing := if st = .winddown then some .stop else none }
    weigh := { ready.weigh with result := .weighed 2 320 } }

/-- A session in ABORTING. -/
def aborting : State :=
  { session .winddown with
    spin := { (session .winddown).spin with
      state := .aborting, den := false, brk := true, closing := some .strike } }

/-- A ramp from step 4 to step i. -/
def rampTo (st : SpinState) (i : Nat) (dir : Dir) : State :=
  { session st with
    spin := { (session st).spin with
      dest := some i, dir := some dir, demand := (session st).spin.speedOf i
      rampTimer := some ⟨0, 14000000⟩ } }

/-- A session in WEIGHING, in phase ACCELERATING. -/
def weighing : State :=
  { session .weighing with
    spin := { (session .weighing).spin with dwell := none, demand := 60 }
    weigh := { Weigh.reset with
      phase := .accelerating, t1 := some ⟨11402310, 40⟩, limit := some ⟨0, 20000000⟩ } }

/-- The part in service mode. -/
def service : State := { ready with serv := ⟨true, false, false⟩, pins := ⟨true, false⟩ }

/-- An order in flight for a chamber, with these waiting behind it. -/
def filling (s : State) (o : Order) (queue : List Order) : State :=
  { s with cham := { s.cham with
      flight := some ⟨o, 0, 0, 0⟩, queue := queue, supplyTimer := some ⟨0, 2000000⟩ } }

/-- A frame in service, its reply in the slot and being sent. -/
def replying (s : State) (waiting : Option Frame) : State :=
  let r : Reply := ⟨0x5A, 7, .ok, [8]⟩
  { s with link := { s.link with
      inService := some ⟨0x1A, 7, []⟩, replySlot := some r, tx := some ⟨r.frame, true⟩
      waiting := waiting } }

/-- TIMING, in the middle of a revolution of n slots opened at time 0. -/
def turning (s : State) (n : Nat) : State :=
  { s with rot := { s.rot with
      rev := some ⟨0, true, n, List.replicate (min n 32) (.valid 3 4), false, false, false⟩
      sinceIndex := n, lastEdge := some 0 } }

/-- A slot edge held pending pairing since time 0. -/
def pendingEdge (s : State) : State :=
  { s with rot := { s.rot with
      sinceIndex := s.rot.sinceIndex + 1
      pendingSlot := some ⟨⟨0, 200⟩, .valid 1 2, some 2500, false, false, false⟩ } }

/-- What a test looks at after a command. -/
def after {α : Type} (c : Instr) (s : State) (f : State → α) : Option α :=
  match exec c s with
  | .next t => some (f t)
  | .fault _ => none
  | .refused _ => none

/-- Waiting long enough for any timer below. -/
def long : Wait := .of 700000000

/-! ## Ill-formed commands are refused (WellFormed) -/

/-- A body of 65 octets, one more than a frame carries (8.2). -/
def overlong : List Octet := List.replicate 65 0

theorem test_wellFormed_identify : (Instr.identify .zero 0 overlong).wellFormed = false := by decide +kernel
theorem test_wellFormed_status : (Instr.status .zero 0 overlong).wellFormed = false := by decide +kernel
theorem test_wellFormed_restart : (Instr.restart .zero 0 overlong).wellFormed = false := by decide +kernel
theorem test_wellFormed_loadLadder : (Instr.loadLadder .zero 0 overlong).wellFormed = false := by
  decide +kernel
theorem test_wellFormed_loadParameters : (Instr.loadParameters .zero 0 overlong).wellFormed = false := by
  decide +kernel
theorem test_wellFormed_loadBaseline : (Instr.loadBaseline .zero 0 overlong).wellFormed = false := by
  decide +kernel
theorem test_wellFormed_flushTable : (Instr.flushTable .zero 0 overlong).wellFormed = false := by
  decide +kernel
theorem test_wellFormed_startSpin : (Instr.startSpin .zero 0 overlong).wellFormed = false := by
  decide +kernel
theorem test_wellFormed_setTarget : (Instr.setTarget .zero 0 overlong).wellFormed = false := by
  decide +kernel
theorem test_wellFormed_stop : (Instr.stop .zero 0 overlong).wellFormed = false := by decide +kernel
theorem test_wellFormed_queryEstimate : (Instr.queryEstimate .zero 0 overlong).wellFormed = false := by
  decide +kernel
theorem test_wellFormed_setTrace : (Instr.setTrace .zero 0 overlong).wellFormed = false := by decide +kernel
theorem test_wellFormed_readTrace : (Instr.readTrace .zero 0 overlong).wellFormed = false := by
  decide +kernel
theorem test_wellFormed_serviceEnter : (Instr.serviceEnter .zero 0 overlong).wellFormed = false := by
  decide +kernel
theorem test_wellFormed_serviceLeave : (Instr.serviceLeave .zero 0 overlong).wellFormed = false := by
  decide +kernel
theorem test_wellFormed_examine : (Instr.examine .zero 0 overlong).wellFormed = false := by decide +kernel
theorem test_wellFormed_depositSlot :
    (Instr.depositSlot .zero 0 (List.replicate 64 0)).wellFormed = false := by decide +kernel
theorem test_wellFormed_depositChamber :
    (Instr.depositChamber .zero 0 (List.replicate 64 0)).wellFormed = false := by decide +kernel
theorem test_wellFormed_manualFill : (Instr.manualFill .zero 0 overlong).wellFormed = false := by
  decide +kernel
theorem test_wellFormed_stopFill : (Instr.stopFill .zero 0 overlong).wellFormed = false := by decide +kernel
theorem test_wellFormed_forceBaseline : (Instr.forceBaseline .zero 0 overlong).wellFormed = false := by
  decide +kernel
/-- 05h names no request, 01h names Identify (R170). -/
theorem test_wellFormed_unknownKind : (Instr.unknownKind .zero 0x05 0 []).wellFormed = true
    ∧ (Instr.unknownKind .zero 0x05 0 overlong).wellFormed = false
    ∧ (Instr.unknownKind .zero 0x01 0 []).wellFormed = false := by decide +kernel
theorem test_no_word_spells_a_command : decodeTableWord 16 0x0102 = none := by decide

/-! ## The manual's worked numbers -/

/-- 2.2: the samples (64, 0) at slot 0 and (0, 64) at slot 8. -/
def circle : List Sample :=
  .valid 64 0 :: List.replicate 7 (.valid 0 0) ++ .valid 0 64 :: List.replicate 23 (.valid 0 0)

theorem test_orbit_of_2_2 : orbitVector circle = ⟨4, 0⟩ ∧ dcOffset circle = ⟨2, 2⟩ := by decide +kernel
/-- 2.1: each column of the table sums to 0. -/
theorem test_columns_sum_to_zero : ((List.range 32).map cos32).sum = 0
    ∧ ((List.range 32).map sin32).sum = 0 ∧ cos32 4 = 724 ∧ sin32 17 = -200 := by decide +kernel
/-- 01, worked sequence: magnitudes 69 and 94; 06: mag(20, −15) = 25. -/
theorem test_mag : mag ⟨-31, 58⟩ = 69 ∧ mag ⟨88, -17⟩ = 94 ∧ mag ⟨20, -15⟩ = 25 := by decide +kernel
/-- 02, worked case: the first window's average and spread, the steady window, U, P(5). -/
theorem test_window_average_unsteady :
    windowAverage 4 [⟨-70, 95⟩, ⟨-38, 72⟩, ⟨-45, 80⟩, ⟨-36, 71⟩] = ⟨-47, 80⟩
    ∧ windowSpread ⟨-47, 80⟩ [⟨-70, 95⟩, ⟨-38, 72⟩, ⟨-45, 80⟩, ⟨-36, 71⟩] = 28 := by decide +kernel
theorem test_window_average_steady :
    windowAverage 4 [⟨-38, 72⟩, ⟨-45, 80⟩, ⟨-36, 71⟩, ⟨-41, 77⟩] = ⟨-40, 75⟩
    ∧ windowSpread ⟨-40, 75⟩ [⟨-38, 72⟩, ⟨-45, 80⟩, ⟨-36, 71⟩, ⟨-41, 77⟩] = 6 := by decide +kernel
theorem test_estimate_and_prediction : estimateU ⟨3072, -1024⟩ ⟨-40, 75⟩ = ⟨-45, 265⟩
    ∧ estimateSize ⟨-45, 265⟩ true = 281 ∧ prediction 281 ⟨1536, 512⟩ = 167 := by decide +kernel
/-- 06, worked sequence: U at step 5, halves rounded away from zero. -/
theorem test_estimate_rounds_halves : estimateU ⟨1536, 512⟩ ⟨20, -15⟩ = ⟨38, -13⟩
    ∧ estimateSize ⟨38, -13⟩ true = 42 := by decide +kernel
/-- 07, worked case: chamber 2 for 156 g, then chamber 3 for 120 g, with chamber 3 at 280 g. -/
theorem test_plan_of_7 :
    (State.plan (ready.setCham (ready.cham.setContent 3 280)) ⟨-45, 265⟩) =
      [⟨2, 156, .planner⟩, ⟨3, 120, .planner⟩] := by decide +kernel
/-- 6.3: the allowances of a ramp. -/
theorem test_ramp_allowance : rampAllowanceMs 8000 320 70 = 22000
    ∧ rampAllowanceMs 8000 600 450 = 14000 ∧ rampAllowanceMs 8000 70 0 = 7600 := by decide +kernel
/-- R112: duties in per mille. -/
theorem test_spd_duty : (rampTo .ramping 3 .up).spdDuty = 266 ∧ (session .settling).spdDuty = 375 := by
  decide +kernel
/-- R23: full scale is 20,000 mN·m. -/
theorem test_torque_full_scale : torqueOf 1023 = 20000 ∧ torqueOf 0 = 0 := by decide +kernel
/-- 03, worked case: 1,466 mN·m over 1,000 ms and 20 rpm. -/
theorem test_class_of_3 :
    (Weigh.complete params { Weigh.reset with
      phase := .holding, holdRevs := 4, t1 := some ⟨11402310, 40⟩, t2 := some ⟨12402950, 60⟩
      accSum := 69060, nAcc := 28, holdSum := 128050, nHold := 128 }).1.result
      = .weighed 2 320 := by decide +kernel
/-- 11.7: octets 4, 5, 6, 7 and 9 of the irregular form. -/
theorem test_trace_record_irregular :
    let r : TraceRecord := ⟨312, some 4, .measuring, 450, none, 94, 32, true, false, false, 0⟩
    r.octets = [0, 0, 0x01, 0x38, 0x41, 0xC2, 0x70, 0x5E, 0, 0x20] := by decide +kernel
/-- R163: the Identify request with tag 0 on the line. -/
theorem test_identify_frame :
    (Frame.mk 0x01 0 []).wire = [0xC5, 0x02, 0x01, 0x00, 0x91, 0xCD] := by decide +kernel

/-! ## The commands -/

/-- R24, R162: LSEL high at the reset gives 115,200 baud and PUSH delivery. -/
theorem test_powerOnReset : after (.powerOnReset .zero true) (session .measuring)
    (fun t => (t.spin.state, t.link.fast, t.trace.push, t.rot.stopped))
    = some (.idle, true, true, true) := by decide +kernel
/-- R9: in WAITING an index edge opens a revolution with its pairing window. -/
theorem test_indexEdge_waiting : after (.indexEdge .zero true) ready
    (fun t => (t.rot.rev.isSome, t.rot.window, t.rot.sinceIndex, t.rot.counter))
    = some (true, some ⟨0, 200⟩, 0, 0) := by decide +kernel
/-- 01, worked sequence: a period of 133,333 µs is 450 rpm, and the counter goes on; with 31 slots the
revolution is not well-timed and the current speed stays. -/
theorem test_indexEdge_closes :
    let close (n : Nat) := (turning (session .measuring) n).setTime 133333
    let record (s : State) := s.closeRecord (s.rot.rev.getD (.opened 0 ⟨false, false⟩)) true ⟨false, false⟩
    let closed (n : Nat) := (close n).rot.closedBy (record (close n))
    (closed 32).speed = 450 ∧ (closed 32).counter = 1 ∧ (closed 32).fallback = false
    ∧ (closed 31).fallback = true ∧ (record (close 31)).irregular = true := by decide +kernel
/-- 01, worked sequence: an interval of 4,166 µs is 450 rpm; 03: 46,875 µs is 40 rpm. -/
theorem test_slotEdge : after (.slotEdge (.of 4166)) (turning ready 3) (fun t => t.rot.slotSpeed)
    = some 450
    ∧ after (.slotEdge (.of 46875)) (turning ready 3) (fun t => t.rot.slotSpeed) = some 40 := by
  decide +kernel
/-- R15: the 48th slot edge without an index edge is index loss and aborts with cause INDEX. -/
theorem test_slotEdge_indexLoss : after (.slotEdge (.of 4166)) (turning (session .measuring) 47)
    (fun t => (t.spin.state, t.spin.closing, t.rot.rev.isSome))
    = some (.aborting, some .index, false) := by decide +kernel
theorem test_pairingWindowExpiry :
    after (.pairingWindowExpiry (.of 200))
      (ready.setRot { ready.rot with window := some ⟨0, 200⟩ }) (fun t => t.rot.window)
    = some none := by decide +kernel
/-- R7: the pending slot edge becomes the next slot of the open revolution. -/
theorem test_pendingPairingExpiry :
    after (.pendingPairingExpiry (.of 200)) (pendingEdge (turning ready 3))
      (fun t => t.rot.rev.map (fun v => (v.slots, v.samples.length))) = some (some (4, 4)) := by
  decide +kernel
/-- R19: a component of −2048 makes the pair invalid. -/
theorem test_readComplete_invalid :
    after (.readComplete (.of 18) 0x800 5)
      (ready.setSamp { ready.samp with read := some ⟨⟨0, 18⟩, .nowhere⟩ })
      (fun t => (t.samp.invalidRun, t.samp.read.isSome)) = some (1, false) := by decide +kernel
/-- R21, R22: mag 601 is above strike_limit 600 and aborts with cause STRIKE. -/
theorem test_readComplete_strike :
    after (.readComplete (.of 18) 601 0)
      ((session .measuring).setSamp { ready.samp with read := some ⟨⟨0, 18⟩, .nowhere⟩ })
      (fun t => (t.spin.state, t.spin.closing, t.spin.brk))
    = some (.aborting, some .strike, true) := by decide +kernel
/-- R23, R50: 20,000 mN·m at full scale enters the acceleration sum and sets the mark. -/
theorem test_conversionComplete :
    after (.conversionComplete (.of 12) 1023)
      (weighing.setSamp { weighing.samp with conv := some ⟨⟨0, 12⟩, .accel⟩ })
      (fun t => (t.weigh.accSum, t.weigh.nAcc, t.weigh.saturated)) = some (20000, 1, true) := by
  decide +kernel
/-- R18: SDO carries 81h, most significant bit first, in cycles 1 to 8; cycles 9 and 20 carry bits 11 and 0 of x, 21
and 32 those of y; −2048 makes the pair invalid (R19). -/
theorem test_sensor_read :
    let reading := ready.setSamp { ready.samp with read := some ⟨⟨0, 18⟩, .nowhere⟩ }
    ((List.range 8).map (fun i => reading.sdo (i + 1))
      = [true, false, false, false, false, false, false, true].map some)
    ∧ reading.scs = false ∧ ready.scs = true ∧ ready.sck = some true ∧ ready.sdo 1 = some false
    ∧ sdiPair (fun c => c == 20 || c == 31) = .valid 1 2 ∧ sdiPair (fun c => c == 9) = .invalid := by
  decide +kernel
/-- R50: a record that abandons the hold leaves the conversion in progress to the hold sum, where its full-scale
sample then counts and sets the mark. -/
theorem test_abandoned_hold_sample :
    let s := { weighing with
      weigh := { weighing.weigh with phase := .holding, holdSum := 900, nHold := 3 }
      samp := { weighing.samp with conv := some ⟨⟨0, 12⟩, .hold⟩ } }
    let t := s.takeRecord ⟨7, 133333, 62, 32, [], 0, true, false, false, false⟩
    (t.weigh.phase, t.weigh.holdSum, t.weigh.nHold) = (.steadying, 0, 0)
    ∧ after (.conversionComplete (.of 12) 1023) t
      (fun u => (u.weigh.phase, u.weigh.holdSum, u.weigh.nHold, u.weigh.saturated))
    = some (.steadying, 20000, 1, true) := by decide +kernel
/-- R16, R138: standstill in WINDDOWN ends the session, and its cause becomes the last end cause; R132: in
MEASURING it is a drive fault. Both orders of R14's hand-off of the lowered speed give it. -/
theorem test_standstillExpiry :
    let first (st : SpinState) := ((session st).stopBasket.speedChanged 450).stoppedEvent.spin
    let last (st : SpinState) := ((session st).stopBasket.stoppedEvent.speedChanged 450).spin
    ((first .winddown).state, (first .winddown).lastEnd) = (.idle, some .stop)
    ∧ ((last .winddown).state, (last .winddown).lastEnd) = (.idle, some .stop)
    ∧ ((first .measuring).state, (first .measuring).lastEnd) = (.idle, some .drive)
    ∧ ((last .measuring).state, (last .measuring).lastEnd) = (.idle, some .drive) := by decide +kernel
theorem test_standstillExpiry_early : after (.standstillExpiry .zero) (session .winddown)
    (fun t => (t.spin.state, t.rot.stopped)) = some (.winddown, false) := by decide +kernel
theorem test_dfltAsserted : after (.dfltAsserted .zero) (session .settling)
    (fun t => (t.spin.state, t.spin.closing, t.spin.den)) = some (.aborting, some .drive, false) := by
  decide +kernel
/-- R146: at 20 pulses per 10 g the 312th pulse makes 156 g, and the order is COMPLETE. -/
theorem test_flowPulse :
    after (.flowPulse .zero)
      (let s := filling service ⟨2, 156, .service⟩ []
       s.setCham { s.cham.setContent 2 155 with flight := some ⟨⟨2, 156, .service⟩, 0, 311, 155⟩ })
      (fun t => (t.cham.content 2, (t.cham.chambers[2]).lastEnd, t.cham.flight.isSome))
    = some (156, some .complete, false) := by decide +kernel
/-- R153: the 20th leak pulse clears the balancer-available mark. -/
theorem test_flowPulse_leak :
    after (.flowPulse .zero) (ready.setCham { ready.cham with leak := 19 })
      (fun t => (t.cham.leak, t.cham.balancer, t.cham.pendingFault))
    = some (20, false, some (.leak 20)) := by decide +kernel
theorem test_svcFalling : after (.svcFalling .zero) service (fun t => (t.serv.mode, t.pins.svc))
    = some (false, false) := by decide +kernel
/-- R164: in HUNTING C5h opens a frame, and any other octet is ignored. -/
theorem test_octetReceived : after (.octetReceived .zero 0xC5) ready (fun t => t.link.rx)
    = some .length ∧ after (.octetReceived .zero 0x02) ready (fun t => t.link.rx) = some .hunting := by
  decide +kernel
theorem test_lineError :
    after (.lineError .zero) (ready.setLink { ready.link with rx := .length, gapTimer := some ⟨0, 20000⟩ })
      (fun t => (t.link.rx, t.link.discards.line)) = some (.hunting, 1) := by decide +kernel
/-- R165: 20 ms after the last octet. -/
theorem test_gapTimerExpiry :
    after (.gapTimerExpiry (.of 20000))
      (ready.setLink { ready.link with rx := .length, gapTimer := some ⟨0, 20000⟩ })
      (fun t => (t.link.rx, t.link.discards.gap)) = some (.hunting, 1) := by decide +kernel
/-- 08, worked sequence: when a reply ends, the waiting frame is handled in the same event. -/
theorem test_frameSent :
    after (.frameSent .zero) (replying ready (some ⟨0x20, 23, []⟩))
      (fun t => (t.link.inService, t.link.waiting, t.link.replySlot.map Reply.result))
    = some (some ⟨0x20, 23, []⟩, none, some .notReady) := by decide +kernel
/-- R56, R57: the limit fails the weighing, and the ramp to step 0 starts. -/
theorem test_weighLimitExpiry : after (.weighLimitExpiry (.of 20000000)) weighing
    (fun t => (t.weigh.result, t.spin.state, t.spin.dest, t.spin.demand))
    = some (.failed .limit, .ramping, some 0, 70) := by decide +kernel
/-- 06, a shortfall on the last ramp: ceiling 4, RETREATING to step 4 at 450 rpm. -/
theorem test_rampTimeout : after (.rampTimeout (.of 14000000)) (rampTo .ramping 5 .up)
    (fun t => (t.spin.state, t.spin.ceiling, t.spin.dest, t.spin.demand))
    = some (.retreating, some 4, some 4, 450) := by decide +kernel
/-- R127: a DOWN ramp that runs out of time is a drive fault. -/
theorem test_rampTimeout_down : after (.rampTimeout (.of 14000000)) (rampTo .retreating 3 .down)
    (fun t => (t.spin.state, t.spin.closing)) = some (.aborting, some .drive) := by decide +kernel
/-- 06: at 600.000 s WINDDOWN with cause DURATION, DEN asserted and BRK released. -/
theorem test_sessionTimerExpiry : after (.sessionTimerExpiry (.of 600000000)) (session .measuring)
    (fun t => (t.spin.state, t.spin.closing, t.spin.den, t.spin.brk))
    = some (.winddown, some .duration, true, false) := by decide +kernel
theorem test_clearExpiry :
    after (.clearExpiry (.of 20000))
      (ready.setTable { ready.table with
        flush := .clearing 0 ⟨0, 20000⟩ false, marksB := Vector.replicate 12 true })
      (fun t => (t.table.flush, t.table.marksB[0], t.table.marksB[1]))
    = some (.clearing 1 ⟨20000, 20000⟩ false, false, true) := by decide +kernel
/-- 7.1: at bleed 5 g a chamber of 156 g in BLEEDING goes to 151 g; at 450 rpm it holds. -/
theorem test_bleedExpiry :
    after (.bleedExpiry (.of 100000))
      ((ready.setCham (ready.cham.setContent 0 156)).setRot { ready.rot with speed := 299 })
      (fun t => t.cham.content 0) = some 151
    ∧ after (.bleedExpiry (.of 100000)) (ready.setCham (ready.cham.setContent 0 156))
      (fun t => t.cham.content 0) = some 156 := by decide +kernel
theorem test_supplyTimeout :
    after (.supplyTimeout (.of 2000000)) (filling (session .balancing) ⟨2, 156, .planner⟩ [])
      (fun t => (t.spin.state, t.cham.balancer, t.cham.pendingFault))
    = some (.settling, false, some (.supply 2 156 0)) := by decide +kernel

/-- The result code of the reply in the slot. -/
def result (t : State) : Option ResultCode := t.link.replySlot.map Reply.result

theorem test_identify : after (.identify .zero 9 []) ready
    (fun t => t.link.replySlot.map (fun r => (r.kind, r.tag, r.fields.length)))
    = some (some (0x41, 9, 11)) := by decide +kernel
/-- 08: the head of a Status reply, page 0, in MEASURING. -/
theorem test_status : after (.status .zero 22 [0]) (session .measuring)
    (fun t => t.link.replySlot.map (fun r => (r.result, r.fields.take 5)))
    = some (some (.ok, [3, 0, 0, 0, 0])) := by decide +kernel
theorem test_restart : after (.restart .zero 1 []) service (fun t => (t.serv.mode, result t))
    = some (false, some .ok)
    ∧ after (.restart .zero 1 []) (session .settling) result = some (some .state) := by decide +kernel
/-- R91: steps 3 and 4 both at 320 rpm are refused with COMBINATION; the standing ladder is accepted. -/
theorem test_loadLadder : after (.loadLadder .zero 1 (ladderBody ladder)) ready result = some (some .ok)
    ∧ after (.loadLadder .zero 1 (ladderBody (ladder.set 4 ⟨320, .dwell, 120⟩))) ready result
      = some (some .combination) := by decide +kernel
/-- R94: with weigh_low 40 a weigh_high of 59 is refused and one of 60 accepted. -/
theorem test_loadParameters :
    after (.loadParameters .zero 1 params.body) ready result = some (some .ok)
    ∧ after (.loadParameters .zero 1 { params with weighHigh := 59 }.body) ready result
      = some (some .combination) := by decide +kernel
theorem test_loadBaseline :
    after (.loadBaseline .zero 1 (baselineBody 4 (Vector.replicate 4 ⟨3072, -1024⟩))) ready
      (fun t => (result t, t.table.entry 4 2)) = some (some .ok, ⟨3072, -1024⟩)
    ∧ after (.loadBaseline .zero 1 (baselineBody 4 (Vector.replicate 4 ⟨12, 10⟩))) ready result
      = some (some .range) := by decide +kernel
theorem test_flushTable : after (.flushTable .zero 1 []) ready
    (fun t => (t.table.active, t.table.flush.isClearing)) = some (.b, true) := by decide +kernel
/-- 06, worked sequence: target 7, 600 s, continuation: WEIGHING at 60 rpm, 50 per mille. -/
theorem test_startSpin : after (.startSpin .zero 21 (startBody 7 600 true)) ready
    (fun t => (t.spin.state, t.spin.demand, t.spdDuty, t.spin.ceiling))
    = some (.weighing, 60, 50, some 7) := by decide +kernel
/-- R96: without parameters the profile is incomplete. -/
theorem test_startSpin_noProfile : after (.startSpin .zero 21 (startBody 7 600 true))
    (ready.setSpin { ready.spin with params := none }) result = some (some .noProfile) := by
  decide +kernel
/-- 06, a new target during the last ramp: only the target changes. -/
theorem test_setTarget : after (.setTarget .zero 1 [5]) (rampTo .ramping 5 .up)
    (fun t => (t.spin.target, t.spin.dest, t.spin.demand, t.link.replySlot.map Reply.fields))
    = some (some 5, some 5, 600, some [5, 5]) := by decide +kernel
/-- R118, R128: a ramp to step 5 redirected to step 4 is DOWN at 450 rpm and UP at 449 (log 40). -/
theorem test_setTarget_redirected :
    let look (v : Nat) := after (.setTarget .zero 1 [4])
      ((rampTo .ramping 5 .up).setRot { (rampTo .ramping 5 .up).rot with speed := v })
      (fun t => (t.spin.state, t.spin.dest, t.spin.dir))
    look 450 = some (.ramping, some 4, some .down) ∧ look 449 = some (.ramping, some 4, some .up) := by
  decide +kernel
theorem test_setTarget_descent : after (.setTarget .zero 1 [3]) (session .measuring)
    (fun t => (t.spin.state, t.spin.dest, t.spin.demand)) = some (.retreating, some 3, 320) := by
  decide +kernel
theorem test_stop : after (.stop .zero 25 []) weighing
    (fun t => (t.spin.state, t.spin.closing, t.weigh.phase))
    = some (.winddown, some .stop, .off) := by decide +kernel
theorem test_queryEstimate : after (.queryEstimate .zero 23 []) ready result
    = some (some .notReady) := by decide +kernel
theorem test_setTrace : after (.setTrace .zero 1 [3, 2, 5]) ready
    (fun t => (t.trace.enable, t.trace.push, t.trace.n, t.trace.m)) = some (true, true, 2, 5) := by
  decide +kernel
theorem test_readTrace : after (.readTrace .zero 1 [4]) ready
    (fun t => t.link.replySlot.map Reply.fields) = some (some [0, 0, 1]) := by decide +kernel
theorem test_serviceEnter : after (.serviceEnter ⟨0, true, false⟩ 1 []) ready
    (fun t => (t.serv.mode, result t)) = some (true, some .ok)
    ∧ after (.serviceEnter .zero 1 []) ready result = some (some .mode) := by decide +kernel
theorem test_serviceLeave : after (.serviceLeave .zero 1 []) (filling service ⟨0, 50, .service⟩ [])
    (fun t => (t.serv.mode, t.cham.flight.isSome, t.link.replySlot.map Reply.fields))
    = some (false, false, some [1]) := by decide +kernel
/-- R190: the LADDER item of step 4: 450 rpm, DWELL, 120 tu. -/
theorem test_examine : after (.examine .zero 1 [0, 4, 1]) service
    (fun t => t.link.replySlot.map Reply.fields)
    = some (some [0, 4, 1, 0x01, 0xC2, 0, 0, 120]) := by decide +kernel
theorem test_depositSlot :
    after (.depositSlot .zero 1 (depositSlotFields 5 2 ⟨1600, 400⟩ 1 false)) service
      (fun t => (t.table.marksA[5], (t.table.slots[5]).k, (t.table.slots[5]).tag))
    = some (true, ⟨1600, 400⟩, 2) := by rfl
theorem test_depositChamber :
    after (.depositChamber .zero 1 (depositChamberFields 3 1000)) service
      (fun t => t.cham.content 3) = some 400 := by decide +kernel
/-- R145: the order is clamped to the room of the chamber and started. -/
theorem test_manualFill :
    after (.manualFill .zero 1 (3 :: u16 200)) (service.setCham (service.cham.setContent 3 280))
      (fun t => (t.cham.flight.map (fun f => f.order.amount), t.link.replySlot.map Reply.fields))
    = some (some 120, some [2, 0, 120]) := by decide +kernel
theorem test_stopFill :
    after (.stopFill .zero 1 [4]) (filling service ⟨0, 50, .service⟩ [⟨1, 20, .service⟩])
      (fun t => (t.cham.flight.isSome, t.cham.queue.length, t.link.replySlot.map Reply.fields))
    = some (false, 0, some [2]) := by decide +kernel
theorem test_forceBaseline : after (.forceBaseline .zero 1 [2]) service
    (fun t => (t.serv.forceLow, t.serv.forceHigh)) = some (false, true) := by decide +kernel
/-- R170: the reply to a kind that names no request carries the kind. -/
theorem test_unknownKind : after (.unknownKind .zero 0x05 7 []) ready
    (fun t => t.link.replySlot.map (fun r => (r.kind, r.result, r.fields)))
    = some (some (0x7F, .malformed, [5])) := by decide +kernel

/-! ## Witnesses: states and operands that meet the hypotheses of each statement, clause by clause -/

/-- A queue of trace records. -/
def records (n : Nat) : List TraceRecord :=
  List.replicate n ⟨7, some 4, .measuring, 450, some (⟨4, 0⟩, ⟨2, 2⟩), 94, 32, false, false, false, 0⟩

/-- A plan at step 4 being filled. -/
def balancing (queue : List Order) : State :=
  filling (session .balancing) ⟨2, 156, .planner⟩ queue

theorem witness_StepRunsTheFrontCommand :
    (ready.setPending [.stop .zero 1 []]).pending = [.stop .zero 1 []] ∧ ready.pending = [] := by
  decide +kernel

/-- Soundness as a test that evaluates, part by part. -/
def sound (s : State) : Bool :=
  decide s.SessionOk && decide s.EstimatorOk && decide s.cham.Ok && decide s.OrdersOk
    && decide s.SenderOk && decide s.LinkOk && decide s.rot.Ok && decide s.rot.StoppedOk
    && decide s.BoundsOk && decide s.table.ClearOk && decide s.ProfileOk && decide s.spin.CourseOk

theorem sound_iff (s : State) : sound s = true ↔ s.Sound := by
  simp only [sound, Bool.and_eq_true, decide_eq_true_eq, and_assoc]

/-- Every kind of state the tests use is sound, so the premises of the StepKeeps statements are met. -/
theorem witness_sound_states :
    ([ready, session .settling, session .measuring, balancing [⟨3, 120, .planner⟩],
      session .winddown, aborting, rampTo .ramping 5 .up, rampTo .retreating 3 .down, weighing,
      filling service ⟨0, 50, .service⟩ [⟨1, 20, .service⟩],
      replying ready (some ⟨0x20, 23, []⟩), turning (session .measuring) 31,
      pendingEdge (turning ready 3)].all sound) = true := by decide +kernel

/-- The other premise of the StepKeeps statements: a step from a sound state with a command waiting. -/
theorem witness_StepKeeps : ∃ s t : State, s.Sound ∧ s.pending ≠ [] ∧ step s = .next t :=
  ⟨(session .measuring).setPending [.stop .zero 1 []], _, (sound_iff _).1 (by decide +kernel),
    by decide +kernel, rfl⟩

theorem witness_DemandWithinGoal :
    sound (session .measuring) = true ∧ (session .measuring).spin.state.active = true
    ∧ sound ready = true ∧ ready.spin.state.active = false := by decide +kernel

theorem witness_ReceiverTakesEveryFrame :
    (Frame.mk 0x02 22 (List.replicate 64 0xC5)).body.length ≤ 64
    ∧ crcOctets (Frame.mk 0x01 0 []).checked ≠ [0x91, 0xCC]
    ∧ (replying ready none).link.tx = some ⟨⟨0x5A, 7, [0, 8]⟩, true⟩ ∧ ready.link.tx = none
    ∧ lineOctet (fun _ => true) = some 0xFF := by decide +kernel

/-- R162: the ten levels of an octet on the line: C5h = 1100_0101b has the start bit low, its data bits from the least
significant, and the stop bit high; the same levels deliver C5h, and with the stop bit low nothing. -/
theorem test_octet_on_the_line :
    (List.range 10).map (octetLevel 0xC5)
      = [false, true, false, true, false, false, false, true, true, true]
    ∧ lineOctet (fun i => [false, true, false, true, false, false, false, true, true, true].getD i true)
      = some 0xC5
    ∧ lineOctet (fun i => [false, true, false, true, false, false, false, true, true, false].getD i true)
      = none := by decide +kernel

/-- A receiver state with its gap timer. -/
def receiving (rx : RxState) : State :=
  ready.setLink { ready.link with
    rx := rx, gapTimer := if rx = .hunting then none else some ⟨0, 20000⟩ }

theorem witness_OctetMovesTheReceiver :
    (receiving .hunting).link.rx = .hunting ∧ (0x01 : Octet) ≠ 0xC5
    ∧ (receiving .length).link.rx = .length
    ∧ 2 ≤ (2 : Octet).toNat ∧ (66 : Octet).toNat ≤ 66 ∧ (1 : Octet).toNat < 2
    ∧ 66 < (67 : Octet).toNat ∧ (67 : Octet) ≠ 0xC5
    ∧ ([] : List Octet).length + 1 < (2 : Octet).toNat
    ∧ ([0x01] : List Octet).length + 1 = (2 : Octet).toNat
    ∧ (receiving (.content 2 [0x01])).link.rx = .content 2 [0x01]
    ∧ (receiving (.check 2 [0x01, 0] none)).link.rx = .check 2 [0x01, 0] none
    ∧ (receiving (.check 2 [0x01, 0] (some 0x91))).link.rx = .check 2 [0x01, 0] (some 0x91)
    ∧ crcOctets [2, 0x01, 0] = [0x91, 0xCD] ∧ crcOctets [2, 0x01, 0] ≠ [0x91, 0xCC]
    ∧ lineOctet (octetLevel 0x01) = some 0x01 := by
  decide +kernel

theorem witness_LineErrorAndGapDropTheFrame :
    (receiving .hunting).link.rx = .hunting ∧ (receiving .length).link.rx ≠ .hunting
    ∧ timerDue (receiving .length).link.gapTimer ((receiving .length).begin (.of 20000)).time = true
    ∧ timerDue (receiving .length).link.gapTimer ((receiving .length).begin (.of 19999)).time = false := by
  decide +kernel

theorem witness_OfferedFrameIsHandledHeldOrDiscarded :
    (Instr.stop .zero 24 []).frame = some ⟨0x1A, 24, []⟩ ∧ ready.link.inService = none
    ∧ (replying ready none).link.inService.isSome = true ∧ (replying ready none).link.waiting = none
    ∧ (replying ready (some ⟨0x20, 23, []⟩)).link.waiting.isSome = true := by decide +kernel

/-- The transmitter sending an event report. -/
def reporting : State :=
  ready.setLink { ready.link with tx := some ⟨⟨0x80, 0, []⟩, false⟩, reports := [.fault (.leak 20)] }

theorem witness_FrameSentEndsTheService :
    ready.link.tx = none ∧ reporting.link.tx = some ⟨⟨0x80, 0, []⟩, false⟩
    ∧ (replying ready none).link.tx = some ⟨⟨0x5A, 7, [0, 8]⟩, true⟩
    ∧ (replying ready none).link.waiting = none
    ∧ (replying ready (some ⟨0x20, 23, []⟩)).link.waiting = some ⟨0x20, 23, []⟩ := by decide +kernel

theorem witness_TransmitterOrder :
    let free (s : State) := s.setLink { s.link with tx := none }
    let push := ready.setTrace { ready.trace with push := true, queue := records 2 }
    reporting.link.tx.isSome = true ∧ (free (replying ready none)).link.replySlot.isSome = true
    ∧ (free reporting).link.replySlot = none ∧ (free reporting).link.reports = [.fault (.leak 20)]
    ∧ push.link.tx = none ∧ push.link.reports = [] ∧ push.trace.push = true ∧ push.trace.queue ≠ []
    ∧ ready.link.replySlot = none ∧ ready.trace.push = false ∧ ready.trace.queue = [] := by
  decide +kernel

theorem witness_ReportsJoinOrAreDropped :
    let s (n : Nat) := ready.setLink { ready.link with reports := List.replicate n (.fault (.leak 20)) }
    (s 7).link.reports.length < 8 ∧ 8 ≤ (s 8).link.reports.length := by decide +kernel

/-- 11.6: a CEILING report of CAP at step 5 that lowers the ceiling from 7 to 5, with target 7, and a STRIKE of revolution
258 at (-600, 0). -/
theorem test_report_frames :
    (Report.ceiling ⟨5, some 7, .cap, some 5, some 7⟩).frame = ⟨0x83, 0, [5, 7, 0, 5, 7]⟩
    ∧ (Report.fault (.strike 258 (-600) 0 600)).frame
      = ⟨0x88, 0, [0, 0, 0, 1, 2, 0xFD, 0xA8, 0, 0, 2, 0x58]⟩ := by decide +kernel

theorem witness_RefusalsChangeNothing :
    let faulted := ready.setCham { ready.cham with pendingFault := some (.leak 20) }
    (ready.answer .stop [1]).result = .malformed
    ∧ ((ready.setSpin Spin.reset).answer .startSpin (startBody 7 600 true)).result = .noProfile
    ∧ (faulted.answer .startSpin (startBody 7 600 true)).result = .supplyFault := by decide +kernel

theorem witness_LengthThenMode :
    RequestKind.lengthOk .stop [1] = false ∧ RequestKind.lengthOk .stop [] = true
    ∧ RequestKind.modeClass .stop = .normal ∧ service.serv.mode = true
    ∧ RequestKind.lengthOk .stopFill [4] = true ∧ RequestKind.modeClass .stopFill = .service
    ∧ ready.serv.mode = false ∧ ready.pins.svc = false ∧ ready.spin.ladder ≠ []
    ∧ ready.spin.isDwell 1 = false ∧ ready.spin.isDwell 11 = false
    ∧ ladderBody ladder = 8 :: (ladderBody ladder).tail ∧ (ladderBody ladder).tail.length = 5 * (8 : Octet).toNat
    ∧ (startBody 7 600 true).length = 4 ∧ (startBody 7 600 true ++ [0]).length ≠ 4 := by decide +kernel

/-- R169, R195: what the general checks answer at the bounds of each range. -/
theorem test_general_checks :
    let silent := service.setSpin { service.spin with params := none }
    let clear := service.setTable { service.table with flush := .clearing 3 ⟨0, 20000⟩ false }
    ([(ready, .setTrace, [3, 15, 15], .ok), (ready, .setTrace, [4, 15, 15], .range),
      (ready, .setTrace, [3, 16, 15], .range), (ready, .setTrace, [3, 15, 16], .range),
      (ready, .readTrace, [0], .range), (ready, .readTrace, [4], .ok), (ready, .readTrace, [5], .range),
      (ready, .setTarget, [12], .range), (ready, .setTarget, [11], .combination),
      (ready, .setTarget, [1], .combination), (ready, .setTarget, [7], .state),
      (service, .forceBaseline, [3], .ok), (service, .forceBaseline, [4], .range),
      (service, .stopFill, [4], .ok), (service, .stopFill, [5], .range),
      (service, .examine, [4, 23, 8], .ok), (service, .examine, [4, 24, 8], .range),
      (service, .examine, [0, 7, 1], .ok), (service, .examine, [0, 8, 1], .range),
      (service, .examine, [1, 47, 1], .ok), (service, .examine, [1, 48, 1], .range),
      (service, .examine, [2, 11, 1], .ok), (service, .examine, [2, 12, 1], .range),
      (service, .examine, [3, 3, 1], .ok), (service, .examine, [3, 4, 1], .range),
      (silent, .examine, [4, 0, 1], .range), (service, .examine, [5, 0, 1], .range),
      (service, .examine, [0, 0, 0], .range), (service, .examine, [0, 0, 9], .range),
      (service, .manualFill, [3, 1, 144], .ok), (service, .manualFill, [3, 1, 145], .range),
      (service, .manualFill, [3, 0, 0], .range), (service, .manualFill, [4, 0, 1], .range),
      (silent, .manualFill, [3, 0, 1], .notReady),
      (service, .deposit, [1, 0, 0, 0, 0, 0, 0, 0, 0, 0, 0], .range),
      (service, .deposit, [4, 0, 0, 0, 0, 0, 0, 0, 0, 0, 0], .range),
      (service, .deposit, [2, 12, 0, 0, 0, 0, 0, 0, 0, 0, 0], .range),
      (service, .deposit, [2, 0, 4, 0, 0, 0, 0, 0, 0, 0, 0], .range),
      (service, .deposit, [2, 0, 0, 0, 0, 0, 0, 3, 0, 0, 0], .range),
      (service, .deposit, [2, 0, 0, 0, 0, 0, 0, 0, 2, 0, 0], .range),
      (service, .deposit, [2, 0, 0, 0, 0, 0, 0, 0, 0, 0, 1], .range),
      (service, .deposit, [2, 0, 0, 0, 15, 0, 0, 1, 0, 0, 0], .range),
      (clear, .deposit, [2, 0, 0, 0, 16, 0, 0, 2, 0, 0, 0], .state),
      (service, .deposit, [3, 4, 0, 0, 0, 0, 0, 0, 0, 0, 0], .range),
      (service, .deposit, [3, 3, 1, 0, 0, 0, 0, 0, 0, 0, 0], .range),
      (service, .deposit, [3, 3, 0, 0, 0, 0, 0, 0, 0, 255, 255], .ok)] :
      List (State × RequestKind × List Octet × ResultCode)).all
      (fun e => (e.1.answer e.2.1 e.2.2.1).result == e.2.2.2) = true := by decide +kernel

/-- A state with a latest estimate. -/
def estimated : State :=
  (session .measuring).setEst { (session .measuring).est with
    latest := some ⟨4, 406, 4, true, 6, ⟨-40, 75⟩, ⟨3072, -1024⟩, ⟨-45, 265⟩, 281, .none, [⟨5, 167⟩]⟩ }

theorem witness_ReadingRequests :
    estimated.link.inService = none ∧ estimated.est.latest.isSome = true ∧ ready.est.latest = none
    ∧ requestKinds.contains 0x05 = false ∧ 3 < (4 : Octet).toNat
    ∧ [(0 : Octet), 1, 2, 3].map BitVec.toNat = [0, 1, 2, 3] := by decide +kernel

theorem witness_TraceRequests :
    let s := ready.setTrace { ready.trace with queue := records 6 }
    s.link.inService = none ∧ (3 : Octet).toNat ≤ 3 ∧ (15 : Octet).toNat ≤ 15
    ∧ 1 ≤ (4 : Octet).toNat ∧ (4 : Octet).toNat ≤ 4 ∧ s.trace.push = false
    ∧ (s.setTrace { s.trace with push := true }).trace.push = true := by decide +kernel

theorem witness_ServiceRequests :
    ready.link.inService = none ∧ ready.spin.state = .idle ∧ ready.serv.mode = false
    ∧ (ready.begin ⟨0, true, false⟩).pins.svc = true
    ∧ (session .measuring).link.inService = none ∧ (session .measuring).spin.state ≠ .idle
    ∧ (session .measuring).serv.mode = false ∧ ((session .measuring).begin ⟨0, true, false⟩).pins.svc = true
    ∧ service.serv.mode = true ∧ service.link.inService = none ∧ (3 : Octet).toNat ≤ 3
    ∧ 1 ≤ (8 : Octet).toNat ∧ (8 : Octet).toNat ≤ 8 ∧ (4 : Octet).toNat ≤ 4
    ∧ (7 : Octet).toNat < service.spin.ladder.length ∧ service.spin.params = some params
    ∧ (23 : Octet).toNat < params.values.length := by decide +kernel

theorem witness_LeavingServiceMode :
    let s := filling service ⟨0, 50, .service⟩ [⟨1, 20, .service⟩]
    s.link.inService = none ∧ s.serv.mode = true ∧ ready.serv.mode = false
    ∧ s.cham.flight.isSome = true ∧ ready.cham.flight = none := by decide +kernel

theorem witness_LoadRequests :
    ready.link.inService = none ∧ ready.serv.mode = false ∧ ready.spin.state = .idle
    ∧ 2 ≤ ladder.length ∧ ladder.length ≤ 12
    ∧ (∀ a ∈ ladder, 50 ≤ a.speed ∧ a.speed ≤ 1200 ∧ 20 ≤ a.limit ∧ a.limit ≤ 1000)
    ∧ params.inRange = true ∧ params.weighLow + 20 ≤ params.weighHigh
    ∧ params.threshold1 < params.threshold2 ∧ params.threshold2 < params.threshold3
    ∧ { params with weighHigh := 59 }.inRange = true
    ∧ (∀ k ∈ (Vector.replicate 4 (⟨12, 11⟩ : Pair)).toList, 16 ≤ mag k)
    ∧ mag ⟨12, 10⟩ < 16 ∧ 7 < ready.spin.ladder.length ∧ ready.spin.ladder.length ≤ 8
    ∧ (session .winddown).spin.state ≠ .idle ∧ (session .winddown).serv.mode = false
    ∧ (session .winddown).link.inService = none
    ∧ (∀ p ∈ [params, { params with windowRevs := 17 }, { params with weighHigh := 59 }],
        ∀ e ∈ p.values.zip [1, 1, 2, 2, 2, 1, 1, 1, 2, 1, 1, 2, 1, 1, 1, 1, 1, 1, 2, 2, 2, 2, 2, 2],
          e.1 < 256 ^ e.2)
    ∧ { params with windowRevs := 17 }.inRange = false
    ∧ (baselineBody 12 (Vector.replicate 4 ⟨1024, 0⟩)).length = 17 := by decide +kernel

/-- R90, R92 to R94, R66: the results at the bounds, in the order of the checks. -/
theorem test_load_checks :
    let sixty (n : Nat) := List.ofFn (fun i : Fin n => LadderStep.mk (50 + 60 * i.val) .dwell 20)
    let one (v k l : Nat) := ladderBody (ladder.set 0 ⟨v, .dwell, l⟩) |>.set 3 (u8 k)
    let busy := session .winddown
    ([(ready, .loadLadder, ladderBody (sixty 1), .range), (ready, .loadLadder, ladderBody (sixty 12), .ok),
      (ready, .loadLadder, ladderBody (sixty 13), .range),
      (ready, .loadLadder, one 50 0 260, .ok), (ready, .loadLadder, one 49 0 260, .range),
      (ready, .loadLadder, one 70 2 260, .range), (ready, .loadLadder, one 70 0 19, .range),
      (ready, .loadLadder, one 70 0 1001, .range), (ready, .loadLadder, one 70 1 260, .combination),
      (busy, .loadLadder, ladderBody ladder, .state), (busy, .loadLadder, one 70 1 260, .combination),
      (ready, .loadParameters, { params with windowRevs := 17 }.body, .range),
      (busy, .loadParameters, params.body, .state),
      (ready, .loadBaseline, baselineBody 11 (Vector.replicate 4 ⟨1024, 0⟩), .combination),
      (ready, .loadBaseline, baselineBody 12 (Vector.replicate 4 ⟨1024, 0⟩), .range)] :
      List (State × RequestKind × List Octet × ResultCode)).all
      (fun e => (e.1.answer e.2.1 e.2.2.1).result == e.2.2.2) = true := by decide +kernel

theorem witness_LoadRequests_rules : ladderRules ladder ∧ ¬ ladderRules (ladder.take 2) := by
  refine ⟨⟨by decide +kernel, by decide +kernel, by decide +kernel, fun i h => ?_⟩, fun h => ?_⟩
  · have h8 : i + 3 < 8 := h
    exact (by decide +kernel : ∀ i, i < 5 → ∃ a ∈ (ladder.drop i).take 4, a.kind = .dwell) i
      (by omega)
  · exact absurd h.2.2.1 (by decide +kernel)

/-- A background clear at a position. -/
def clearing (pos : Nat) (p : Bool) : State :=
  ready.setTable { ready.table with flush := .clearing pos ⟨0, 20000⟩ p }

theorem witness_FlushAndClear :
    ready.link.inService = none ∧ ready.table.flush = .quiet
    ∧ (clearing 3 false).table.flush = .clearing 3 ⟨0, 20000⟩ false
    ∧ (clearing 3 true).table.flush = .clearing 3 ⟨0, 20000⟩ true
    ∧ timerDue ready.table.flush.timer ready.time = false
    ∧ (⟨0, 20000⟩ : Timer).due ((clearing 10 false).begin (.of 20000)).time = true
    ∧ (10 : Fin 12).val < 11 ∧ (11 : Fin 12).val = 11
    ∧ (clearing 11 true).table.flush = .clearing (11 : Fin 12).val ⟨0, 20000⟩ true := by decide +kernel

theorem witness_RestartKeepsAndClears :
    let s := filling service ⟨0, 50, .service⟩ [⟨1, 20, .service⟩]
    s.link.inService = none ∧ s.spin.state = .idle
    ∧ (session .winddown).link.inService = none ∧ (session .winddown).spin.state ≠ .idle := by
  decide +kernel

/-- R177, R187: Restart and Service Enter outside IDLE are refused with STATE. -/
theorem test_refused_outside_idle :
    after (.restart .zero 1 []) (session .winddown) (fun t => (t.spin.state, result t))
      = some (.winddown, some .state)
    ∧ after (.serviceEnter ⟨0, true, false⟩ 1 []) (session .measuring) (fun t => (t.serv.mode, result t))
      = some (false, some .state) := by decide +kernel

theorem witness_StartSpinBeginsASession :
    ready.link.inService = none ∧ ready.serv.mode = false ∧ ready.spin.state = .idle
    ∧ 30 ≤ 600 ∧ 600 ≤ 1800 ∧ ready.spin.ladder ≠ [] ∧ ready.spin.params = some params
    ∧ (∀ i, i < ready.spin.ladder.length → tget ready.table.loaded i false = true)
    ∧ params.weighHigh < ready.spin.speedOf 0
    ∧ params.holdSpeed ≤ ready.spin.speedOf (ready.spin.ladder.length - 1)
    ∧ ready.spin.isDwell 7 = true ∧ ready.cham.pendingFault = none
    ∧ (ready.begin .zero).pins.dflt = false := by decide +kernel

/-- R96, R97, R116, R169: each refusal of a Start Spin, at the bounds, in the order of the checks. -/
theorem witness_StartSpinBeginsASession_refused :
    let with' (p : Params) := ready.setSpin { ready.spin with params := some p }
    let bare := ready.setSpin { ready.spin with params := none }
    let unloaded := ready.setTable { ready.table with loaded := ready.table.loaded.set 7 false }
    ([(ready, startBody 12 600 true, .range, []), (ready, startBody 7 29 true, .range, []),
      (ready, startBody 7 1801 true, .range, []), (ready, [7, 2, 88, 2], .range, []),
      (with' { params with weighHigh := 70 }, startBody 7 30 true, .combination, []),
      (with' { params with holdSpeed := 1001 }, startBody 7 1800 true, .combination, []),
      (ready, startBody 1 600 false, .combination, []), (session .winddown, startBody 7 600 true, .state, []),
      (bare, startBody 1 600 true, .noProfile, [5]), (unloaded, startBody 7 600 true, .noProfile, [3]),
      (State.reset, startBody 0 30 true, .noProfile, [0])] :
      List (State × List Octet × ResultCode × List Octet)).all
      (fun e => e.1.link.inService == none && !e.1.serv.mode
        && (e.1.answer .startSpin e.2.1).result == e.2.2.1
        && (e.1.answer .startSpin e.2.1).fields == e.2.2.2) = true := by decide +kernel

theorem witness_StartSpinUnderAFault :
    let s := ready.setPins ⟨false, true⟩
    let t := s.setRot { s.rot with stopped := true }
    let faulted := service.setCham { service.cham with pendingFault := some (.supply 2 156 40) }
    let idle := faulted.setServ ⟨false, false, false⟩
    (s.begin .zero).pins.dflt = true ∧ s.rot.stopped = false ∧ t.rot.stopped = true
    ∧ s.spin.isDwell 7 = true ∧ s.cham.pendingFault = none ∧ s.spin.params = some params
    ∧ faulted.cham.pendingFault = some (.supply 2 156 40) ∧ faulted.serv.mode = true
    ∧ faulted.spin.params = some params ∧ faulted.link.inService = none
    ∧ idle.cham.pendingFault = some (.supply 2 156 40) ∧ idle.serv.mode = false
    ∧ idle.spin.state = .idle ∧ idle.spin.isDwell 7 = true := by decide +kernel

theorem witness_SetTargetByState :
    (session .measuring).link.inService = none ∧ (session .measuring).serv.mode = false
    ∧ (7 : Octet).toNat ≤ 11 ∧ (session .measuring).spin.isDwell 3 = true
    ∧ weighing.spin.state = .weighing
    ∧ (rampTo .ramping 6 .up).spin.state = .ramping ∧ (rampTo .ramping 6 .up).spin.dest = some 6
    ∧ (rampTo .ramping 6 .up).spin.dwell = some 4 ∧ (rampTo .ramping 6 .up).spin.isDwell 5 = true
    ∧ (session .settling).spin.dwell.any (fun c => 4 < c) = false
    ∧ (session .settling).spin.dwell.any (fun c => 3 < c) = true
    ∧ (rampTo .retreating 3 .down).spin.state = .retreating ∧ ready.spin.state = .idle := by
  decide +kernel

theorem witness_ClosingEvents :
    (session .measuring).spin.state.active = true ∧ (session .measuring).link.inService = none
    ∧ (session .measuring).serv.mode = false
    ∧ timerDue (session .measuring).spin.sessionTimer ((session .measuring).begin long).time = true
    ∧ timerDue (session .measuring).spin.sessionTimer ((session .measuring).begin .zero).time = false
    ∧ ready.spin.state.active = false ∧ ready.spin.state = .idle ∧ aborting.spin.state = .aborting
    ∧ (session .winddown).spin.state = .winddown := by decide +kernel

theorem witness_RampTimeoutTurnsOrAborts :
    let up := rampTo .ramping 5 .up
    let first := rampTo .ramping 0 .up
    let down := rampTo .retreating 3 .down
    timerDue up.spin.rampTimer (up.begin .zero).time = false
    ∧ timerDue up.spin.rampTimer (up.begin long).time = true ∧ up.spin.dir = some .up
    ∧ 0 < up.spin.dest.getD 0 ∧ first.spin.dest.getD 0 = 0 ∧ first.spin.state.hasRamp = true
    ∧ down.spin.dir ≠ some .up ∧ down.spin.state.hasRamp = true
    ∧ timerDue down.spin.rampTimer (down.begin long).time = true := by decide +kernel

theorem witness_WeighLimitEndsTheWeighing :
    timerDue weighing.weigh.limit (weighing.begin .zero).time = false
    ∧ timerDue weighing.weigh.limit (weighing.begin (.of 20000000)).time = true
    ∧ weighing.weigh.phase ≠ .off ∧ weighing.spin.state = .weighing := by decide +kernel

theorem witness_ServiceFills :
    let full := service.setCham (service.cham.setContent 1 400)
    let busy := filling service ⟨0, 50, .service⟩ [⟨1, 20, .service⟩]
    let alone := filling service ⟨0, 50, .service⟩ []
    service.link.inService = none ∧ service.serv.mode = true ∧ service.spin.params = some params
    ∧ service.cham.pendingFault = none ∧ (∀ o ∈ busy.cham.orders, o.origin = .service)
    ∧ min 400 (400 - (full.cham.chambers[(1 : Fin 4)]).content) = 0
    ∧ min 1 (400 - (busy.cham.chambers[(1 : Fin 4)]).content) ≠ 0
    ∧ (∃ q ∈ busy.cham.queue, q.chamber = 1) ∧ ¬ (∃ q ∈ busy.cham.queue, q.chamber = 0)
    ∧ busy.cham.flight = some ⟨⟨0, 50, .service⟩, 0, 0, 0⟩
    ∧ service.cham.queue = [] ∧ service.cham.flight = none ∧ alone.cham.queue = []
    ∧ busy.cham.queue = [⟨1, 20, .service⟩]
    ∧ busy.cham.queue.find? (fun q => q.chamber = 1) = some ⟨1, 20, .service⟩
    ∧ (∀ o ∈ busy.cham.orders, o.chamber ≠ 3)
    ∧ (service.setSpin { service.spin with params := none }).spin.params = none := by decide +kernel

theorem witness_DepositRequests :
    let busy := filling service ⟨0, 50, .service⟩ []
    service.link.inService = none ∧ service.serv.mode = true ∧ 16 ≤ mag ⟨16, 0⟩
    ∧ service.table.flush = .quiet ∧ busy.serv.mode = true ∧ busy.cham.queue = []
    ∧ busy.cham.flight = some ⟨⟨0, 50, .service⟩, 0, 0, 0⟩ ∧ service.cham.flight = none
    ∧ (filling service ⟨0, 50, .service⟩ [⟨1, 20, .service⟩]).cham.queue ≠ [] := by
  decide +kernel

/-- Chamber 0 filling, chamber 1 full, and orders queued for these chambers. -/
def waiting (queue : List Order) : State :=
  let s := filling service ⟨0, 50, .service⟩ queue
  s.setCham (s.cham.setContent 1 400)

/-- R145, R146, R192: a Deposit of 400 g on the filling chamber ends its order CAPACITY; the queued order for the full
chamber ends CAPACITY at its start, and the next one starts, or the line closes. -/
theorem test_depositChamber_queued :
    let look (q : List Order) := after (.depositChamber .zero 1 (depositChamberFields 0 400)) (waiting q)
      (fun t => (t.cham.flight.map Flight.order, t.cham.chambers.toList.map Chamber.lastEnd,
        t.link.reports.length))
    look [⟨1, 20, .service⟩, ⟨2, 30, .service⟩, ⟨3, 10, .service⟩]
      = some (some ⟨2, 30, .service⟩, [some .capacity, some .capacity, none, none], 2)
    ∧ look [⟨1, 20, .service⟩] = some (none, [some .capacity, some .capacity, none, none], 2) := by
  decide +kernel

/-- The states of the clauses of ServiceFills whose next order is clamped to 0. -/
theorem witness_ServiceFills_clamped :
    (waiting [⟨1, 20, .service⟩]).cham.flight = some ⟨⟨0, 50, .service⟩, 0, 0, 0⟩
    ∧ (waiting [⟨1, 20, .service⟩]).cham.queue ≠ []
    ∧ (∀ o ∈ (waiting [⟨1, 20, .service⟩]).cham.orders, o.origin = .service)
    ∧ min 20 (400 - ((waiting []).cham.chambers[(1 : Fin 4)]).content) = 0 := by decide +kernel

/-- R145, R147, R194: a Stop Fill of the order in flight; the queued order for the full chamber ends CAPACITY at its
start, the next one starts or the line closes. -/
theorem test_stopFill_queued :
    let look (q : List Order) := after (.stopFill .zero 1 [0]) (waiting q)
      (fun t => (t.cham.flight.map Flight.order, t.cham.chambers.toList.map Chamber.lastEnd,
        t.link.reports.length))
    look [⟨1, 20, .service⟩, ⟨2, 30, .service⟩]
      = some (some ⟨2, 30, .service⟩, [some .stopped, some .capacity, none, none], 2)
    ∧ look [⟨1, 20, .service⟩] = some (none, [some .stopped, some .capacity, none, none], 2) := by
  decide +kernel

/-- R86: a STANDBY Deposit and a NONE Deposit of (0, 0) to the same slot leave the standby mark set (log 37). -/
theorem test_deposit_standby_then_none :
    let t := (service.table.deposit 5 ⟨2, ⟨16, 0⟩, 0⟩ .standby).deposit 5 ⟨2, ⟨0, 0⟩, 0⟩ .none
    t.marksB.toList.getD 5 false = true ∧ t.marksA.toList.getD 5 true = false := by decide +kernel

theorem witness_FlowPulseFillsTheChamber :
    let f : Flight := ⟨⟨2, 156, .planner⟩, 0, 311, 155⟩
    let s (q : List Order) := (balancing q).setCham { (balancing q).cham with flight := some f }
    let g : Flight := ⟨⟨2, 156, .service⟩, 0, 311, 155⟩
    let free (q : List Order) := (waiting q).setCham { (waiting q).cham with flight := none }
    (s []).cham.flight = some f ∧ ¬ 156 ≤ (309 + 1) * 10 / (s []).spin.par.flowCal
    ∧ 312 * 10 / (s []).spin.par.flowCal = 156 ∧ (s []).cham.queue = []
    ∧ f.order.origin = .planner ∧ (s []).spin.state = .balancing ∧ g.order.origin = .service
    ∧ (s [⟨3, 120, .planner⟩]).cham.queue = [⟨3, 120, .planner⟩]
    ∧ min 120 (400 - ((s [⟨3, 120, .planner⟩]).cham.chambers[(3 : Fin 4)]).content) ≠ 0
    ∧ (waiting [⟨1, 20, .service⟩]).cham.queue ≠ []
    ∧ min 20 (400 - ((waiting []).cham.chambers[(1 : Fin 4)]).content) = 0
    ∧ (free [⟨1, 20, .service⟩]).cham.flight = none
    ∧ (free [⟨1, 20, .service⟩]).startNext.cham.flight = none
    ∧ (free [⟨1, 20, .service⟩, ⟨2, 30, .service⟩]).startNext.cham.flight.isSome = true := by
  decide +kernel

/-- R123, R145: the same at the end of a fill: an order clamped to 0 at its start ends CAPACITY, and a plan with
nothing left to start leads to SETTLING in the same event. -/
theorem test_flowPulse_zero_at_start :
    let s (full : Nat) (queue : List Order) := (balancing queue).setCham
      { (balancing queue).cham.setContent 3 full with flight := some ⟨⟨2, 156, .planner⟩, 0, 311, 155⟩ }
    let look (u : State) := after (.flowPulse .zero) u (fun t => (t.spin.state, t.cham.flight.isSome,
      (t.cham.chambers[(3 : Fin 4)]).lastEnd, t.link.reports.length))
    look (s 400 [⟨3, 120, .planner⟩]) = some (.settling, false, some .capacity, 2)
    ∧ look (s 399 [⟨3, 120, .planner⟩]) = some (.balancing, true, none, 0) := by decide +kernel

theorem witness_LeakPulsesAndBleed :
    ready.cham.flight = none ∧ ready.cham.leak ≠ 19
    ∧ (ready.setCham { ready.cham with leak := 19 }).cham.leak = 19
    ∧ ready.cham.bleedTimer.due (ready.begin .zero).time = false
    ∧ ready.cham.bleedTimer.due (ready.begin (.of 100000)).time = true
    ∧ State.reset.spin.params = none ∧ ready.spin.par.holdSpeed ≤ ready.rot.speed
    ∧ (ready.setRot { ready.rot with speed := 299 }).rot.speed < params.holdSpeed
    ∧ ready.spin.params = some params := by decide +kernel

theorem witness_SupplyTimeoutDeclaresAFault :
    let s := balancing []
    let t := filling service ⟨0, 50, .service⟩ []
    timerDue s.cham.supplyTimer (s.begin .zero).time = false
    ∧ timerDue s.cham.supplyTimer (s.begin (.of 2000000)).time = true
    ∧ s.cham.flight = some ⟨⟨2, 156, .planner⟩, 0, 0, 0⟩ ∧ s.spin.state = .balancing
    ∧ timerDue t.cham.supplyTimer (t.begin (.of 2000000)).time = true
    ∧ t.cham.flight = some ⟨⟨0, 50, .service⟩, 0, 0, 0⟩ := by decide +kernel

theorem witness_PairingExpiries :
    let open' := ready.setRot { ready.rot with window := some ⟨0, 200⟩ }
    let waiting := pendingEdge ready
    let timing := pendingEdge (turning ready 3)
    timerDue open'.rot.window (open'.begin (.of 199)).time = false
    ∧ timerDue open'.rot.window (open'.begin (.of 200)).time = true
    ∧ ready.rot.pendingSlot = none ∧ waiting.rot.rev = none
    ∧ waiting.rot.pendingSlot = some ⟨⟨0, 200⟩, .valid 1 2, some 2500, false, false, false⟩
    ∧ (⟨0, 200⟩ : Timer).due (waiting.begin (.of 200)).time = true
    ∧ timing.rot.rev.isSome = true ∧ timing.rot.pendingSlot = waiting.rot.pendingSlot := by
  decide +kernel

/-- The weighing in HOLDING. -/
def holding (s : State) : State := s.setWeigh { s.weigh with phase := .holding }

theorem witness_IndexEdgeOpensARevolution :
    ready.rot.rev = none ∧ ready.rot.pendingSlot = none
    ∧ ready.samp.conv = none ∧ (pendingEdge ready).rot.pendingSlot.isSome = true
    ∧ (pendingEdge ready).rot.rev = none ∧ (holding (pendingEdge weighing)).rot.rev = none
    ∧ (holding (pendingEdge weighing)).weigh.phase = .holding
    ∧ (holding (pendingEdge weighing)).rot.pendingSlot
      = some ⟨⟨0, 200⟩, .valid 1 2, some 2500, false, false, false⟩ := by decide +kernel

/-- R52: the torque sample of the slot edge that becomes slot 0 enters the hold sum in HOLDING, and no sum otherwise. -/
theorem test_hold_sum_of_slot_0 :
    let look (s : State) := after (.indexEdge .zero true) s (fun t => (t.weigh.holdSum, t.weigh.nHold))
    look (holding (pendingEdge weighing)) = some (2500, 1) ∧ look (pendingEdge weighing) = some (0, 0)
    ∧ ((holding weighing).torqueAssigned (some 20000)).weigh.saturated = true := by decide +kernel

theorem witness_IndexEdgeClosesARevolution :
    let s := turning (session .measuring) 32
    s.rot.rev.isSome = true ∧ (s.begin (.of 133333)).time - 0 ≠ 0
    ∧ (∀ x ∈ List.replicate 32 (Sample.valid 3 4), x ≠ .unread) := by decide +kernel

/-- A state whose current speed has just fallen from 300 rpm, hold_speed, to 299. -/
def slowed (s : State) : State := s.setRot { s.rot with speed := 299 }

theorem witness_IndexEdgeClosesARevolution_speed :
    let still := (slowed (balancing [])).setSpin (session .measuring).spin
    (slowed ready).spin.params = some params ∧ params.holdSpeed ≤ 300 ∧ ¬ params.holdSpeed ≤ 299
    ∧ (slowed ready).rot.speed < params.holdSpeed
    ∧ (slowed (balancing [])).cham.flight = some ⟨⟨2, 156, .planner⟩, 0, 0, 0⟩
    ∧ (slowed (balancing [])).spin.state = .balancing ∧ still.spin.state ≠ .balancing
    ∧ still.cham.flight = some ⟨⟨2, 156, .planner⟩, 0, 0, 0⟩ ∧ still.spin.params = some params := by
  decide +kernel

/-- R123, R150: the fall below hold_speed ends the plan's fills SPEED and leads to SETTLING; at hold_speed, with a
service order in flight and with the speed already below, nothing happens. -/
theorem test_speedChanged :
    let look (s : State) (old : Nat) := (fun t : State =>
      (t.spin.state, t.cham.flight.isSome, (t.cham.chambers[(2 : Fin 4)]).lastEnd)) (s.speedChanged old)
    look (slowed (balancing [⟨3, 120, .planner⟩])) 300 = (.settling, false, some .speed)
    ∧ look (slowed (balancing [])) 299 = (.balancing, true, none)
    ∧ look ((slowed (balancing [])).setRot { ready.rot with speed := 300 }) 450 = (.balancing, true, none)
    ∧ look (slowed (filling service ⟨2, 50, .service⟩ [])) 300 = (.idle, true, none) := by decide +kernel

theorem witness_SlotEdgeIsTimedSampledAndPlaced :
    let s := turning ready 3
    let open' := s.setRot { s.rot with window := some ⟨0, 200⟩ }
    let reading := s.setSamp { s.samp with read := some ⟨⟨0, 18⟩, .nowhere⟩, invalidRun := 6 }
    s.rot.sinceIndex < 47 ∧ s.samp.read.isSome = false ∧ s.rot.stopped = false
    ∧ reading.samp.read.isSome = true ∧ reading.samp.invalidRun ≠ 7
    ∧ (turning ready 47).rot.sinceIndex = 47 ∧ ready.rot.indexLost = false
    ∧ ({ (turning ready 48).rot with indexLost := true }).indexLost = true
    ∧ s.rot.lastEdge = some 0 ∧ (s.begin (.of 4166)).time ≠ 0 ∧ s.rot.window = none
    ∧ open'.rot.window = some ⟨0, 200⟩ ∧ open'.rot.rev.isSome = true := by decide +kernel

/-- R48, R49: 1,875,000 / 46,876 rounds to 40 rpm, the weigh_low of t1, and / 47,469 to 39; / 31,250 is 60 rpm, the
weigh_high of t2, and / 31,513 rounds to 59. -/
theorem test_slotEdge_climb :
    let s (p : WeighPhase) := (turning (session .weighing) 3).setWeigh { Weigh.reset with phase := p }
    let look (p : WeighPhase) (us : Nat) := after (.slotEdge (.of us)) (s p) (fun t =>
      (t.weigh.phase, t.weigh.t1.isSome, t.weigh.t2.map ClimbEdge.speed))
    look .below 47469 = some (.below, false, none) ∧ look .below 46876 = some (.accelerating, true, none)
    ∧ look .below 31250 = some (.steadying, true, some 60)
    ∧ look .accelerating 31250 = some (.steadying, false, some 60)
    ∧ look .accelerating 31513 = some (.accelerating, false, none) := by decide +kernel
/-- R50: the samples of the slot edges from t1 to t2, both included, go to the acceleration sum. -/
theorem test_slotEdge_torque :
    let dest (p : WeighPhase) (us : Nat) := after (.slotEdge (.of us))
      ((turning (session .weighing) 3).setWeigh { Weigh.reset with phase := p })
      (fun t => t.samp.conv.map Conversion.dest)
    dest .below 47469 = some (some .pending) ∧ dest .below 46876 = some (some .accel)
    ∧ dest .accelerating 31250 = some (some .accel) ∧ dest .steadying 31250 = some (some .pending) := by
  decide +kernel

theorem witness_IndexLossDiscardsTheRevolution :
    (turning ready 47).rot.sinceIndex = 47 ∧ (turning ready 47).rot.indexLost = false
    ∧ (turning ready 47).samp.read = none ∧ (turning ready 47).spin.state = .idle
    ∧ (turning ready 47).cham.plannerInFlight = false
    ∧ (turning (session .measuring) 47).spin.state.active = true
    ∧ (turning aborting 47).spin.state = .aborting := by decide +kernel

theorem witness_ReadCompleteChecksThePair :
    let r : ReadInProgress := ⟨⟨0, 18⟩, .nowhere⟩
    let s (t : State) (run : Nat) (mark : Bool) := t.setSamp ⟨some r, none, run, mark⟩
    (s ready 0 false).samp.read = some r
    ∧ r.timer.due ((s ready 0 false).begin (.of 18)).time = true
    ∧ mag ⟨600, 0⟩ ≤ params.strikeLimit ∧ params.strikeLimit < mag ⟨601, 0⟩
    ∧ (s ready 0 false).spin.params = some params ∧ (s ready 0 false).spin.state = .idle
    ∧ (s ready 0 false).samp.idleStrike = false ∧ (s ready 0 true).samp.idleStrike = true
    ∧ (s aborting 7 false).spin.state = .aborting ∧ (s ready 7 false).samp.invalidRun = 7
    ∧ (s (session .measuring) 7 false).spin.state.active = true
    ∧ ((601 : BitVec 12) ≠ 0x800 ∧ (601 : BitVec 12).toInt = 601)
    ∧ r.timer.due ((s ready 0 false).begin (.of 17)).time = false ∧ ready.samp.read = none
    ∧ (∀ i, i < 12 → (fun c => c == 20 || c == 31) (9 + i) = (1 : BitVec 12).getLsbD (11 - i))
    ∧ (∀ i, i < 12 → (fun c => c == 20 || c == 31) (21 + i) = (2 : BitVec 12).getLsbD (11 - i)) := by
  decide +kernel

theorem witness_ConversionCompleteSumsTheTorque :
    let s (d : TorqueDest) := weighing.setSamp { weighing.samp with conv := some ⟨⟨0, 12⟩, d⟩ }
    (∀ d ∈ [TorqueDest.accel, .hold, .pending, .nowhere], (s d).samp.conv = some ⟨⟨0, 12⟩, d⟩)
    ∧ (⟨0, 12⟩ : Timer).due ((s .accel).begin (.of 11)).time = false
    ∧ (⟨0, 12⟩ : Timer).due ((s .accel).begin (.of 12)).time = true := by decide +kernel

theorem witness_StandstillStopsTheBasket :
    timerDue ready.rot.standstill (ready.begin (.of 499999)).time = false
    ∧ timerDue ready.rot.standstill (ready.begin (.of 500000)).time = true
    ∧ ready.cham.plannerInFlight = false ∧ weighing.cham.plannerInFlight = false
    ∧ weighing.spin.state = .weighing ∧ aborting.spin.state = .aborting
    ∧ (rampTo .ramping 5 .up).spin.state.hasRamp = true
    ∧ timerDue (rampTo .ramping 5 .up).rot.standstill (ready.begin (.of 500000)).time = true
    ∧ (balancing []).spin.state = .balancing ∧ (balancing []).cham.flight.isSome = true
    ∧ timerDue (balancing []).rot.standstill ((balancing []).begin (.of 500000)).time = true := by
  decide +kernel

/-- −5/2 is −3 and 7/2 is 4; an exact quotient is itself. -/
theorem witness_RoundingAndSaturation : IsRounded (-3) (-5) 2 ∧ IsRounded 4 7 2 ∧ IsRounded 3 6 2
    ∧ ¬ IsRounded (-2) (-5) 2 ∧ saturate (-8000) 8000 (-9000) = -8000 ∧ (-8000 : Int) ≤ 8000
    ∧ mag ⟨-31, 58⟩ = 58 + 3 * 31 / 8 ∧ sin32 31 = cos32 23 := by decide +kernel

/-- A record of 32 samples (2047, −2047), regular or irregular. -/
def extreme (irregular : Bool) : RevRecord :=
  ⟨7, 133333, 450, 32, List.ofFn (fun _ : Fin 32 => .valid 2047 (-2047)), 2814, true, irregular, false,
    false⟩

theorem witness_OrbitVectorOfARecord :
    (extreme true).irregular = true ∧ (extreme false).irregular = false
    ∧ (extreme false).samples = List.ofFn (fun k : Fin 32 => Sample.valid ((fun _ => 2047) k) ((fun _ => -2047) k))
    ∧ (2047 : Int).natAbs ≤ 2047 := by decide +kernel

/-- A well-timed record at a speed with an orbit of the size given on the x axis. -/
def record (speed : Nat) (size : Int) : RevRecord :=
  ⟨7, 133333, speed, 32,
    List.ofFn (fun k : Fin 32 => .valid (size * cos32 k.val / 1024) (size * sin32 k.val / 1024)), 0, true,
    false, false, false⟩

/-- 06, a watch excess on the climb to step 3, and the records of the other clauses. -/
theorem witness_RecordsBySpinState :
    let up := (rampTo .ramping 3 .up)
    let two := up.setSpin { up.spin with rampCount := 1 }
    ready.spin.state = .idle ∧ up.spin.state = .ramping ∧ up.spin.dir = some .up
    ∧ up.spin.excess (record 230 250) = true ∧ up.spin.excess (record 230 150) = false
    ∧ 0 < up.spin.dest.getD 0 ∧ up.spin.inBand (record 320 0) = true
    ∧ up.spin.inBand (record 330 0) = false ∧ up.spin.rampCount ≠ 1 ∧ two.spin.rampCount = 1
    ∧ (session .settling).spin.state = .settling ∧ (extreme true).irregular = true
    ∧ (record 450 0).irregular = false ∧ (record 450 0).filling = false
    ∧ (balancing []).spin.state = .balancing
    ∧ (balancing []).spin.excess (record 449 150) = true
    ∧ (balancing []).spin.excess (record 449 100) = false
    ∧ 0 < (balancing []).spin.dwell.getD 0 ∧ (balancing []).spin.retreats < 1
    ∧ (balancing []).cham.flight = some ⟨⟨2, 156, .planner⟩, 0, 0, 0⟩
    ∧ ((balancing []).setSpin { (balancing []).spin with retreats := 1 }).spin.par.maxRetreats ≤ 1 := by
  decide +kernel

/-- R114, R125: a BALANCING excess with the retreats used up: SETTLING, a STATE report with reason WATCH after the
FILL_END, and no pre-fill record. -/
theorem test_balancing_excess :
    let s := (balancing []).setSpin { (balancing []).spin with retreats := 1 }
    let u := s.setEst { s.est with preFill := some ⟨4, ⟨90, 0⟩, ⟨1024, 0⟩, Vector.replicate 4 0⟩ }
    let t := u.takeRecord (record 449 150)
    t.spin.state = .settling ∧ t.est.preFill = none ∧ t.cham.flight = none
    ∧ t.link.reports.length = 2
    ∧ t.link.reports.getLast? = some (.state ⟨.settling, .balancing, .watch, some 4, none, none, some 7,
        some 7, 450⟩) := by decide +kernel

/-- A window of n vectors with m measuring records. -/
def windowed (n m : Nat) (v : Pair) : State :=
  (session .measuring).setEst { (session .measuring).est with
    window := List.replicate n ⟨7, v⟩, m := m }

theorem witness_MeasuringRecordFillsTheWindow :
    (windowed 0 0 ⟨0, 0⟩).spin.state = .measuring ∧ (extreme true).irregular = true
    ∧ (record 450 0).irregular = false ∧ (record 450 0).ramping = false ∧ (record 450 0).filling = false
    ∧ (windowed 2 2 ⟨0, 0⟩).est.window.length + 1 < params.windowRevs
    ∧ (windowed 3 3 ⟨0, 0⟩).est.window.length + 1 = params.windowRevs
    ∧ (windowed 3 3 ⟨0, 0⟩).spin.par.windowRevs = 4
    ∧ windowSpread (windowAverage 4 [⟨0, 0⟩, ⟨0, 0⟩, ⟨0, 0⟩, ⟨0, 0⟩]) [⟨0, 0⟩, ⟨0, 0⟩, ⟨0, 0⟩, ⟨0, 0⟩]
      ≤ params.spreadLimit
    ∧ params.spreadLimit < windowSpread (windowAverage 4 [⟨90, 0⟩, ⟨90, 0⟩, ⟨90, 0⟩, ⟨0, 0⟩])
      [⟨90, 0⟩, ⟨90, 0⟩, ⟨90, 0⟩, ⟨0, 0⟩]
    ∧ min 255 ((windowed 3 3 ⟨90, 0⟩).est.m + 1) < 3 * params.windowRevs
    ∧ 3 * params.windowRevs ≤ min 255 ((windowed 3 11 ⟨90, 0⟩).est.m + 1) := by decide +kernel

theorem witness_DecisionTestsAndOutcomes :
    let s := session .measuring
    let used := s.setSpin { s.spin with attempts := 3, retreats := 1 }
    s.spin.limitOf 4 < 121 ∧ ¬ s.spin.limitOf 4 < 120 ∧ s.spin.limitOf 0 < 121
    ∧ s.spin.retreats < s.spin.par.maxRetreats ∧ used.spin.par.maxRetreats ≤ used.spin.retreats
    ∧ s.spin.attempts < s.spin.par.maxAttempts ∧ ¬ used.spin.attempts < used.spin.par.maxAttempts
    ∧ s.spin.par.redistThreshold < 401 ∧ 110 ≤ s.spin.limitOf 5 ∧ ¬ 111 ≤ s.spin.limitOf 5
    ∧ s.spin.par.holdSpeed ≤ s.spin.speedOf 4 ∧ s.spin.speedOf 0 < s.spin.par.holdSpeed
    ∧ s.cham.balancer = true ∧ s.spin.plans < s.spin.par.maxPlans ∧ s.plan ⟨-45, 265⟩ ≠ []
    ∧ s.plan ⟨0, 0⟩ = [] ∧ s.spin.limitOf 4 * 3 / 4 < 91
    ∧ ([⟨5, 111⟩, ⟨6, 3⟩] : List Prediction).Pairwise (fun a b => a.step < b.step)
    ∧ s.spin.worstMargin [⟨5, 111⟩, ⟨6, 3⟩] = some (5, 1)
    ∧ s.spin.state = .measuring ∧ s.spin.dwell = some 4 ∧ s.rot.stopped = false
    ∧ s.cham.flight = none ∧ s.cham.queue = []
    ∧ (∀ x ∈ ([⟨2, 400, .planner⟩, ⟨3, 1, .planner⟩] : List Order),
      1 ≤ x.amount ∧ x.amount + s.cham.chambers[x.chamber].content ≤ 400)
    ∧ ([⟨2, 400, .planner⟩, ⟨3, 1, .planner⟩] : List Order).Pairwise (fun x y => x.chamber ≠ y.chamber) := by
  decide +kernel

/-- R105, R118, R145: a BALANCE starts the first order and queues the rest; an ADVANCE at the speed of its
destination is a ramp DOWN (log 36). -/
theorem test_outcomes :
    let s := session .measuring
    let t := s.applyChoice 4 ⟨90, 0⟩ ⟨1024, 0⟩ 90
      ⟨.balance [⟨2, 156, .planner⟩, ⟨3, 120, .planner⟩], 4⟩
    let fast := s.setRot { s.rot with speed := 600 }
    t.spin.state = .balancing ∧ t.cham.flight = some ⟨⟨2, 156, .planner⟩, 0, 0, 0⟩
    ∧ t.cham.queue = [⟨3, 120, .planner⟩] ∧ t.cham.supplyTimer = some ⟨0, 2000000⟩
    ∧ (s.applyChoice 4 ⟨0, 0⟩ ⟨1024, 0⟩ 0 ⟨.advance 5, 3⟩).spin.dir = some .up
    ∧ (fast.applyChoice 4 ⟨0, 0⟩ ⟨1024, 0⟩ 0 ⟨.advance 5, 3⟩).spin.dir = some .down := by decide +kernel

/-- A step from WEIGHING into RAMPING. -/
theorem witness_ClimbNeedsAPermit_weighing : ∃ s t : State, s.Sound ∧ step s = .next t
    ∧ s.spin.state ≠ .ramping ∧ t.spin.state = .ramping :=
  ⟨weighing.setPending [.weighLimitExpiry (.of 20000000)], _, (sound_iff _).1 (by decide +kernel), rfl,
    by decide +kernel, by decide +kernel⟩

/-- MEASURING with one vector missing from a quiet window, at the end of a revolution. -/
def lastVector : State := turning (windowed 3 3 ⟨0, 0⟩) 32

theorem handOff_either (s : State) (old : Nat) (r : RevRecord) (f : State → Bool)
    (h1 : f (((s.traceRevolution r).speedChanged old).takeRecord r) = true)
    (h2 : f (((s.traceRevolution r).takeRecord r).speedChanged old) = true) : f (s.handOff old r) = true := by
  unfold State.handOff; dsimp only; split <;> assumption

/-- The state in which the effect of that index edge begins. -/
def closing : State := State.begin (.of 133333) lastVector

/-- The record of the revolution it closes, and the state that takes it. -/
def closingRecord : RevRecord :=
  closing.closeRecord (closing.rot.rev.getD (.opened 0 closing.look)) true closing.look

def closed : State :=
  ((closing.setRot (closing.rot.closedBy closingRecord)).setSamp
    ((closing.samp.readLost).revolutionClosed false)).openRevolution closing.look

theorem indexEdge_closing :
    closing.indexEdge true = (closed.handOff closing.rot.speed closingRecord).torqueAssigned none := rfl

/-- A step from MEASURING into RAMPING, whichever of the two is taken first (log 10): the fourth quiet
vector permits the climb to step 5. -/
theorem witness_ClimbNeedsAPermit_measuring : ∃ s t : State, s.Sound ∧ step s = .next t
    ∧ s.spin.state = .measuring ∧ t.spin.state = .ramping := by
  refine ⟨lastVector.setPending [.indexEdge (.of 133333) true], (closing.indexEdge true).arbitrate,
    (sound_iff _).1 (by decide +kernel), rfl, by decide +kernel, ?_⟩
  rw [indexEdge_closing]
  refine of_decide_eq_true (handOff_either closed closing.rot.speed closingRecord
    (fun t => decide ((t.torqueAssigned none).arbitrate.spin.state = .ramping)) ?_ ?_) <;> decide +kernel

theorem witness_EstimateAndLearning :
    0 < mag ⟨1, 0⟩ ∧ 16 ≤ mag ⟨16, 0⟩ ∧ (7 * 7 < 8 * 8)
    ∧ 8 * 8 ≤ 8 * 8 + 0 * 0 ∧ mag ⟨19, 0⟩ < 20 ∧ 20 ≤ mag ⟨20, 0⟩
    ∧ mag (measuredK ⟨20, 0⟩ ⟨200, 0⟩) < mag ⟨1024, 0⟩ / 4
    ∧ ¬ (mag (measuredK ⟨200, 0⟩ ⟨200, 0⟩) < mag ⟨1024, 0⟩ / 4
      ∨ 4 * mag ⟨1024, 0⟩ < mag (measuredK ⟨200, 0⟩ ⟨200, 0⟩))
    ∧ 16 ≤ mag (blendedK ⟨1024, 0⟩ (measuredK ⟨200, 0⟩ ⟨200, 0⟩))
    ∧ ¬ (mag (measuredK ⟨-20, 0⟩ ⟨1024, 0⟩) < mag ⟨16, 0⟩ / 4
      ∨ 4 * mag ⟨16, 0⟩ < mag (measuredK ⟨-20, 0⟩ ⟨1024, 0⟩))
    ∧ mag (blendedK ⟨16, 0⟩ (measuredK ⟨-20, 0⟩ ⟨1024, 0⟩)) < 16 := by decide +kernel

/-- A plan of step 4 with 200 g delivered to chamber 0, which turned the average from (0, 0) to a. -/
def filled : State :=
  (session .measuring).setEst { (session .measuring).est with
    preFill := some ⟨4, ⟨0, 0⟩, ⟨1024, 0⟩, #v[200, 0, 0, 0]⟩ }

/-- The learning step: nothing to learn from, an accepted outcome, a rejected one, and the two ways of discarding. -/
theorem witness_EstimateAndLearning_step :
    let o (a : Pair) := learn filled.spin.par ⟨4, ⟨0, 0⟩, ⟨1024, 0⟩, #v[200, 0, 0, 0]⟩ a
    (session .measuring).est.preFill = none
    ∧ filled.est.preFill = some ⟨(4 : Fin 12).val, ⟨0, 0⟩, ⟨1024, 0⟩, #v[200, 0, 0, 0]⟩
    ∧ filled.spin.par.holdSpeed ≤ filled.spin.speedOf 4 ∧ filled.serv.forceHigh = false
    ∧ filled.table.flush.isPending = false
    ∧ (filled.setServ ⟨false, false, true⟩).serv.forceHigh = true
    ∧ (filled.setTable { filled.table with flush := .clearing 3 ⟨0, 20000⟩ true }).table.flush.isPending = true
    ∧ (o ⟨141, 141⟩).kNew.isSome = true ∧ (o ⟨141, 141⟩).result = .accepted ∧ (o ⟨3, 3⟩).kNew = none
    ∧ (o ⟨3, 3⟩).result = .displacement := by decide +kernel

/-- The session with slot 4 valid in the active set for class 2, with this check value. -/
def slotted (check : BitVec 16) (response : Nat) : State :=
  let s := session .measuring
  { s with
    table := { s.table with
      slots := s.table.slots.set 4 ⟨2, ⟨3072, -1024⟩, check⟩, marksA := s.table.marksA.set 4 true }
    spin := { s.spin with params := some { params with errorResponse := response } } }

/-- A reached slot whose check is one off is an integrity error (R67). -/
theorem lookupCase_wrong : (slotted (Config.checkValue 2 ⟨3072, -1024⟩ + 1) 2).lookupCase 4 2 = .integrityError := by
  have wrong : ¬ Config.checkValue 2 ⟨3072, -1024⟩ + 1 = Config.checkValue 2 ⟨3072, -1024⟩ := by
    intro h; bv_omega
  have agrees : (Slot.mk 2 ⟨3072, -1024⟩ (Config.checkValue 2 ⟨3072, -1024⟩ + 1)).agrees = false :=
    decide_eq_false wrong
  unfold State.lookupCase
  dsimp only
  rw [if_neg (fun h => Bool.noConfusion h), if_neg (fun h => Bool.noConfusion h),
    if_neg (fun h => Bool.noConfusion (agrees.symm.trans h.2.2)), if_pos ⟨rfl, rfl⟩]

/-- The decision event: a climb decision from step 4 with the next dwell step 5, whose coefficients are in the baseline;
a goal decision, the target being step 4 itself; and a lookup that ends the session, under error response 2. -/
theorem witness_DecisionTestsAndOutcomes_event :
    let s := session .measuring
    let goal := s.setSpin { s.spin with target := some 4 }
    let bad := slotted (Config.checkValue 2 ⟨3072, -1024⟩ + 1) 2
    s.weigh.cls = some 2 ∧ s.spin.goal = some 7 ∧ s.spin.ceiling = some 7 ∧ goal.spin.goal = some 4
    ∧ s.spin.isDwell 5 = true ∧ (∀ z, 4 < z → z < 5 → s.spin.isDwell z = false)
    ∧ (∃ x k above, (s.learningStep 2 ⟨-40, 75⟩).1.lookups 2 [4, 5] = (x, some (⟨4, k⟩ :: above)))
    ∧ (∃ x k, (goal.learningStep 2 ⟨-40, 75⟩).1.lookups 2 [4] = (x, some [⟨4, k⟩]))
    ∧ (List.range (5 + 1 - 4)).map (fun z => z + 4) = [4, 5]
    ∧ ((bad.learningStep 2 ⟨-40, 75⟩).1.lookups 2 [4, 5]).2 = none
    ∧ ((bad.learningStep 2 ⟨-40, 75⟩).1.lookups 2 [4]).2 = none := by
  refine ⟨by decide +kernel, by decide +kernel, by decide +kernel, by decide +kernel, by decide +kernel,
    fun z h1 h2 => by omega, ⟨_, _, _, rfl⟩, ⟨_, _, rfl⟩, rfl, ?_, ?_⟩ <;>
  · show (State.lookups (slotted _ 2) 2 _).2 = none
    rw [State.lookups, State.lookup, lookupCase_wrong]
    rfl

/-- The slot is reached and its check agrees. -/
theorem witness_LookupByCase_hit :
    let s := slotted (Config.checkValue 2 ⟨3072, -1024⟩) 1
    s.serv.forceHigh = false ∧ s.table.flush.isPending = false ∧ s.table.marksA[4] = true
    ∧ (s.table.slots[4]).tag = 2
    ∧ (s.table.slots[4]).check = Config.checkValue (s.table.slots[4]).tag (s.table.slots[4]).k :=
  ⟨rfl, rfl, rfl, rfl, rfl⟩

/-- The slot is reached and its check does not agree, under each response. -/
theorem witness_LookupByCase_error (r : Fin 3) :
    let s := slotted (Config.checkValue 2 ⟨3072, -1024⟩ + 1) r.val
    s.table.marksA[4] = true ∧ s.spin.par.errorResponse = r.val
    ∧ (s.table.slots[4]).check ≠ Config.checkValue (s.table.slots[4]).tag (s.table.slots[4]).k := by
  refine ⟨rfl, rfl, fun h => ?_⟩
  have h' : Config.checkValue 2 ⟨3072, -1024⟩ + 1 = Config.checkValue 2 ⟨3072, -1024⟩ := h
  bv_omega

/-- Forced, pending and missed lookups. -/
theorem witness_LookupByCase_others :
    (service.setServ ⟨true, true, false⟩).spin.speedOf 0 < params.holdSpeed
    ∧ (service.setServ ⟨true, true, false⟩).serv.forceLow = true
    ∧ (clearing 3 true).table.flush.isPending = true ∧ ready.table.marksA[4] = false
    ∧ (session .measuring).spin.par.errorResponse = 1 := by decide +kernel

theorem witness_WeighingHoldAndClass :
    let w : Weigh := { Weigh.reset with phase := .steadying }
    let h : Weigh := { Weigh.reset with
      phase := .holding, holdRevs := 4, t1 := some ⟨11402310, 40⟩, t2 := some ⟨12402950, 60⟩
      accSum := 69060, nAcc := 28, holdSum := 128050, nHold := 128 }
    w.phase = .steadying ∧ stableForWeighing params (record 61 0) = true
    ∧ stableForWeighing params (record 62 0) = false ∧ w.stable ≠ 1
    ∧ { w with stable := 1 }.stable = 1 ∧ h.phase = .holding ∧ h.saturated = false
    ∧ { h with saturated := true }.saturated = true ∧ { h with nHold := 0 }.nHold = 0
    ∧ h.nAcc ≠ 0 ∧ h.nHold ≠ 0 ∧ h.dt = some 1000
    ∧ { h with t2 := h.t1 }.dt = some 0 ∧ h.holdSum / h.nHold < h.accSum / h.nAcc
    ∧ ({ h with accSum := 28000 }.accSum / 28 ≤ h.holdSum / h.nHold)
    ∧ { h with t2 := some ⟨11502310, 60⟩ }.dt = some 100
    ∧ params.threshold1 < params.threshold2 ∧ params.threshold2 < params.threshold3 := by decide +kernel

/-- The record of the fourth hold revolution, and the one before. -/
theorem witness_WeighingHoldAndClass_completes :
    let s (n : Nat) := weighing.setWeigh { weighing.weigh with phase := .holding, holdRevs := n }
    (s 3).spin.state = .weighing
    ∧ ((s 3).weigh.takeRecord (s 3).spin.par (record 60 0)).phase = .holding
    ∧ ((s 3).weigh.takeRecord (s 3).spin.par (record 60 0)).holdRevs = 4
    ∧ ((s 2).weigh.takeRecord (s 2).spin.par (record 60 0)).holdRevs = 3
    ∧ ((s 3).takeRecord (record 60 0)).spin.state = .ramping
    ∧ ((s 3).takeRecord (record 60 0)).spin.dest = some 0
    ∧ ((s 3).takeRecord (record 60 0)).weigh.result = .failed .torque
    ∧ ((s 2).takeRecord (record 60 0)).spin.state = .weighing := by decide +kernel

theorem witness_TraceRecordsEnterOrAreCounted :
    let s := session .measuring
    let full := s.setTrace { s.trace with queue := records 32 }
    ready.spin.state = .idle ∧ s.spin.state ≠ .idle ∧ s.trace.enable = true
    ∧ s.trace.queue.length < 32 ∧ 32 ≤ full.trace.queue.length
    ∧ (s.setTrace { s.trace with enable := false }).trace.enable = false := by decide +kernel

theorem witness_TraceRecordForms :
    let r (irr : Bool) : TraceRecord :=
      ⟨312, some 4, .measuring, 450, some (⟨-2895, 2895⟩, ⟨-600, 600⟩), 94, 32, irr, false, false, 0⟩
    (r false).irregular = false ∧ (r true).irregular = true ∧ (r true).slots < 64
    ∧ (r true).state ≠ .idle ∧ (r true).peak < 4096 ∧ (∀ d ∈ (r true).dwell, d ≤ 11)
    ∧ (r true).speed ≤ 4000 ∧ (r true).gap ≤ 255 ∧ (-2895 : Int).natAbs ≤ 2895
    ∧ (∀ x ∈ records 4, x.irregular = false) := by decide +kernel

theorem witness_QueueMarks :
    let s (n m k : Nat) := (ready.setTrace { ready.trace with n := n, m := m, queue := records k })
    (s 15 15 17).trace.n ≤ 15 ∧ (s 15 15 17).trace.m ≤ 15 ∧ (s 15 15 17).trace.nearFull = true
    ∧ (s 0 0 32).trace.n = 0 ∧ (s 0 0 32).trace.queue.length ≤ 32
    ∧ ((s 4 4 6).answer .readTrace [4]).result = .ok
    ∧ ((s 4 4 6).answer .setTrace [3, 2, 5]).result = .ok := by decide +kernel

end Sys2Proof.Tests
end

section
/-! The manual's conventions (00_scope.md R1 to R4): rounding is one quotient, truncation goes toward zero, saturation
takes the nearer bound, and the cosine table has its symmetries. O48 is put together from these. -/

namespace Sys2Proof.Machine

/-! ## Quotients (R1) -/

/-- Rounding treats both signs alike: R1 rounds a half away from zero, not up. -/
theorem isRounded_neg (v n : Int) (d : Nat) : IsRounded (-v) (-n) d ↔ IsRounded v n d := by
  have h : -v * d - -n = -(v * d - n) := by rw [Int.neg_mul]; omega
  rw [IsRounded, IsRounded, h, Int.neg_mul, Int.natAbs_neg, Int.natAbs_neg, Int.natAbs_neg]

theorem roundDiv_of_nonneg {n : Int} (hn : 0 ≤ n) (d : Nat) :
    roundDiv n d = (2 * n + d) / (2 * d) := by
  rw [roundDiv, if_pos hn, roundDivNat, Int.natCast_ediv, Int.natCast_add, Int.natCast_mul,
    Int.natAbs_of_nonneg hn, Int.natCast_mul]
  rfl

/-- R1 for a dividend that is not negative: away from zero is up, so the rounded quotient is the integer whose
half-open interval of length 1 holds the exact one. -/
theorem isRounded_iff_of_nonneg {n : Int} (hn : 0 ≤ n) {d : Nat} (hd : 0 < d) (v : Int) :
    IsRounded v n d ↔ 2 * (v * d) ≤ 2 * n + d ∧ 2 * n + d < 2 * (v * d) + 2 * d := by
  have hsign : 0 ≤ v * d ∨ v * d ≤ -d := by
    rcases Int.lt_or_le v 0 with hv | hv
    · have h : v * d ≤ -1 * d :=
        Int.mul_le_mul_of_nonneg_right (by omega) (Int.natCast_nonneg d)
      exact .inr (by omega)
    · exact .inl (Int.mul_nonneg hv (Int.natCast_nonneg d))
  rw [IsRounded]
  omega

/-- R1: the rounded quotient is the one integer nearest to n / d, the one farther from zero of two that are as near. -/
theorem isRounded_iff (v n : Int) {d : Nat} (hd : 0 < d) : IsRounded v n d ↔ v = roundDiv n d := by
  have nonneg (v n : Int) (hn : 0 ≤ n) : IsRounded v n d ↔ v = roundDiv n d := by
    rw [isRounded_iff_of_nonneg hn hd, roundDiv_of_nonneg hn, eq_comm (a := v),
      Int.ediv_eq_iff_of_pos (by omega)]
    have h : v * (2 * (d : Int)) = 2 * (v * d) := Int.mul_left_comm v 2 d
    rw [h]
  rcases Int.le_total 0 n with hn | hn
  · exact nonneg v n hn
  · rw [← isRounded_neg, nonneg (-v) (-n) (by omega), roundDiv_neg, Int.neg_inj]

/-- R1: a truncated quotient is the largest in size that does not go beyond n / d. -/
theorem truncDiv_natAbs_bounds (n : Int) {d : Nat} (hd : 0 < d) :
    (truncDiv n d * d).natAbs ≤ n.natAbs ∧ n.natAbs < (truncDiv n d * d).natAbs + d := by
  have h : (truncDiv n d).natAbs = n.natAbs / d := Int.natAbs_tdiv n d
  rw [Int.natAbs_mul, h, Int.natAbs_natCast]
  exact ⟨Nat.div_mul_le_self _ _, Nat.lt_div_mul_add hd⟩

theorem truncDiv_nonneg {n : Int} (hn : 0 ≤ n) (d : Nat) : 0 ≤ truncDiv n d :=
  Int.tdiv_nonneg hn (Int.natCast_nonneg d)

theorem truncDiv_neg (n : Int) (d : Nat) : truncDiv (-n) d = -truncDiv n d := Int.neg_tdiv n d

theorem truncDiv_nonpos {n : Int} (hn : n ≤ 0) (d : Nat) : truncDiv n d ≤ 0 := by
  have h := truncDiv_nonneg (Int.neg_nonneg_of_nonpos hn) d
  rwa [truncDiv_neg, Int.neg_nonneg] at h

/-! ## Saturation (R2) -/

theorem saturate_of_lt {lo hi v : Int} (h : v < lo) : saturate lo hi v = lo := if_pos h

theorem saturate_of_gt {lo hi v : Int} (hb : lo ≤ hi) (h : hi < v) : saturate lo hi v = hi := by
  rw [saturate, if_neg (by omega), if_pos h]

theorem countUp_self (top : Nat) : countUp top top = top := Nat.min_eq_left (Nat.le_succ top)

theorem countUp_of_le {top n : Nat} (h : n ≤ top) :
    countUp top n = if n = top then top else n + 1 := by
  split
  next htop => rw [htop, countUp_self]
  next hlow => exact countUp_of_lt (Nat.lt_of_le_of_ne h hlow)

/-! ## The size of a pair (R3) -/

/-- R3 over the integers, with each absolute value as the larger of a number and its negative. -/
theorem mag_eq (a b : Int) :
    (mag ⟨a, b⟩ : Int) = max (max a (-a)) (max b (-b)) + 3 * min (max a (-a)) (max b (-b)) / 8 := by
  simp only [mag]
  omega

/-! ## The cosine table (R4) -/

theorem cosHalf_of_le {k : Nat} (h : k ≤ 8) : cosHalf k = cosQuarter k := if_pos h

theorem cosHalf_of_gt {k : Nat} (h : 8 < k) : cosHalf k = -cosQuarter (16 - k) :=
  if_neg (Nat.not_le.mpr h)

/-- The first half of the table is odd about slot 8, whose entry is 0. -/
theorem cosHalf_sub {k : Nat} (h : k ≤ 16) : cosHalf (16 - k) = -cosHalf k := by
  rcases Nat.lt_trichotomy k 8 with hk | rfl | hk
  · rw [cosHalf_of_gt (by omega), cosHalf_of_le (by omega), Nat.sub_sub_self h]
  · rfl
  · rw [cosHalf_of_le (by omega), cosHalf_of_gt hk, Int.neg_neg]

theorem cos32_mod (k : Nat) : cos32 (k % 32) = cos32 k := by
  rw [cos32, cos32, Nat.mod_mod]

theorem cos32_of_le {k : Nat} (h : k ≤ 16) : cos32 k = cosHalf k := by
  rw [cos32, Nat.mod_eq_of_lt (by omega), if_pos h]

theorem cos32_of_gt {k : Nat} (h : 16 < k) (hk : k < 32) : cos32 k = cosHalf (32 - k) := by
  rw [cos32, Nat.mod_eq_of_lt hk, if_neg (by omega)]

theorem cos32_sixteen_sub {k : Nat} (h : k ≤ 16) : cos32 (16 - k) = -cos32 k := by
  rw [cos32_of_le (Nat.sub_le 16 k), cos32_of_le h, cosHalf_sub h]

/-- The table is even about slot 16. -/
theorem cos32_sub {k : Nat} (h1 : 1 ≤ k) (h31 : k ≤ 31) : cos32 (32 - k) = cos32 k := by
  rcases Nat.lt_trichotomy k 16 with hk | rfl | hk
  · rw [cos32_of_gt (by omega) (by omega), cos32_of_le (by omega), Nat.sub_sub_self (by omega)]
  · rfl
  · rw [cos32_of_le (by omega), cos32_of_gt hk (by omega)]

theorem sin32_eq (k : Nat) : sin32 k = cos32 ((k + 24) % 32) := (cos32_mod (k + 24)).symm

/-! ## The statement of family 00_scope.md -/

/-- Settles O48: each clause is one of the laws above. -/
theorem roundingAndSaturation : Obligations.RoundingAndSaturation := by
  unfold Obligations.RoundingAndSaturation
  refine ⟨fun n d hd => ⟨(isRounded_iff _ n hd).2 rfl, fun v => (isRounded_iff v n hd).1⟩,
    fun n d hd => ?trunc, fun n d hd => ?floor,
    fun lo hi v hb => ⟨saturate_of_lt, saturate_of_gt hb, saturate_of_mem⟩,
    fun _ _ => countUp_of_le, mag_eq, by decide, fun _ => cos32_sixteen_sub,
    fun _ => cos32_sub, fun k _ => sin32_eq k⟩
  case trunc =>
    obtain ⟨hle, hlt⟩ := truncDiv_natAbs_bounds n hd
    exact ⟨hle, hlt, (truncDiv_nonneg · d), (truncDiv_nonpos · d)⟩
  case floor => exact ⟨Nat.div_mul_le_self n d, Nat.lt_mul_of_div_lt (Nat.lt_succ_self _) hd⟩

end Sys2Proof.Machine
end

section
/-! The orbit vector and the DC offset of a record (02_orbit_estimation.md, R27): the sums of a record of valid pairs,
the bounds of a sum and of a rounded quotient, and the table's bound on a slot. O49 is put together from these. -/

namespace Sys2Proof.Machine

/-! ## The sums over a record of valid pairs -/

theorem orbitSums_valid (k : Nat) (x y : Int) (l : List Sample) :
    orbitSums k (.valid x y :: l)
      = ⟨(orbitSums (k + 1) l).re + (x * cos32 k + y * sin32 k),
         (orbitSums (k + 1) l).im + (y * cos32 k - x * sin32 k)⟩ := rfl

theorem offsetSums_valid (x y : Int) (l : List Sample) :
    offsetSums (.valid x y :: l) = ⟨(offsetSums l).re + x, (offsetSums l).im + y⟩ := rfl

/-- The recursion numbers the pairs from `k` on, so the pair at place `i` stands in slot `k + i`. -/
theorem orbitSums_ofFn {n : Nat} (x y : Fin n → Int) (k : Nat) :
    orbitSums k (List.ofFn fun i => .valid (x i) (y i))
      = ⟨(List.ofFn fun i => x i * cos32 (k + i) + y i * sin32 (k + i)).sum,
         (List.ofFn fun i => y i * cos32 (k + i) - x i * sin32 (k + i)).sum⟩ := by
  induction n generalizing k with
  | zero => simp [orbitSums]
  | succ n ih =>
    have hslot (i : Fin n) : k + i.succ = k + 1 + i := by rw [Fin.val_succ]; omega
    simp only [List.ofFn_succ, List.sum_cons, orbitSums_valid, ih, hslot, Fin.val_zero, Nat.add_zero]
    rw [Pair.mk.injEq]
    exact ⟨Int.add_comm _ _, Int.add_comm _ _⟩

theorem offsetSums_ofFn {n : Nat} (x y : Fin n → Int) :
    offsetSums (List.ofFn fun i => .valid (x i) (y i)) = ⟨(List.ofFn x).sum, (List.ofFn y).sum⟩ := by
  induction n with
  | zero => simp [offsetSums]
  | succ n ih =>
    simp only [List.ofFn_succ, List.sum_cons, offsetSums_valid, ih]
    rw [Pair.mk.injEq]
    exact ⟨Int.add_comm _ _, Int.add_comm _ _⟩

/-! ## Bounds -/

/-- A sum of n numbers of size at most b has size at most n * b. -/
theorem natAbs_sum_ofFn_le {n : Nat} {f : Fin n → Int} {b : Nat} (h : ∀ i, (f i).natAbs ≤ b) :
    (List.ofFn f).sum.natAbs ≤ n * b := by
  induction n with
  | zero => simp
  | succ n ih =>
    rw [List.ofFn_succ, List.sum_cons, Nat.succ_mul, Nat.add_comm (n * b)]
    exact Nat.le_trans (Int.natAbs_add_le _ _) (Nat.add_le_add (h 0) (ih fun i => h i.succ))

theorem roundDivNat_mono (d : Nat) {m n : Nat} (h : m ≤ n) : roundDivNat m d ≤ roundDivNat n d :=
  Nat.div_le_div_right (Nat.add_le_add_right (Nat.mul_le_mul_left 2 h) d)

theorem natAbs_roundDiv (n : Int) (d : Nat) : (roundDiv n d).natAbs = roundDivNat n.natAbs d := by
  unfold roundDiv
  split
  · exact Int.natAbs_natCast _
  · rw [Int.natAbs_neg, Int.natAbs_natCast]

/-- Rounding keeps a bound on the size of the dividend, itself rounded. -/
theorem natAbs_roundDiv_le {n : Int} {b : Nat} (h : n.natAbs ≤ b) (d : Nat) :
    (roundDiv n d).natAbs ≤ roundDivNat b d := by
  rw [natAbs_roundDiv]
  exact roundDivNat_mono d h

/-- The table's bound on a slot, |c_k| + |s_k| ≤ 1448; slot 4 has it with equality. -/
theorem cos32_add_sin32_le : ∀ k : Nat, k < 32 → (cos32 k).natAbs + (sin32 k).natAbs ≤ 1448 := by
  decide

/-- A pair's component along a direction (c, s) is at most its larger component times |c| + |s|. -/
theorem natAbs_mul_add_mul_le {x y : Int} {b : Nat} (hx : x.natAbs ≤ b) (hy : y.natAbs ≤ b)
    (c s : Int) :
    (x * c + y * s).natAbs ≤ b * (c.natAbs + s.natAbs) := by
  calc (x * c + y * s).natAbs
      ≤ x.natAbs * c.natAbs + y.natAbs * s.natAbs := by
        simpa only [Int.natAbs_mul] using Int.natAbs_add_le (x * c) (y * s)
    _ ≤ b * c.natAbs + b * s.natAbs :=
        Nat.add_le_add (Nat.mul_le_mul_right _ hx) (Nat.mul_le_mul_right _ hy)
    _ = b * (c.natAbs + s.natAbs) := (Nat.mul_add _ _ _).symm

section Slot
variable {x y : Int} {k : Nat}

/-- A pair's share of Sr. -/
theorem natAbs_orbit_re_le (hx : x.natAbs ≤ 2047) (hy : y.natAbs ≤ 2047) (hk : k < 32) :
    (x * cos32 k + y * sin32 k).natAbs ≤ 2047 * 1448 :=
  Nat.le_trans (natAbs_mul_add_mul_le hx hy _ _) (Nat.mul_le_mul_left _ (cos32_add_sin32_le k hk))

/-- A pair's share of Si: the same with the direction (c_k, −s_k) and the components exchanged. -/
theorem natAbs_orbit_im_le (hx : x.natAbs ≤ 2047) (hy : y.natAbs ≤ 2047) (hk : k < 32) :
    (y * cos32 k - x * sin32 k).natAbs ≤ 2047 * 1448 := by
  have h := natAbs_mul_add_mul_le hy hx (cos32 k) (-sin32 k)
  rw [Int.mul_neg, ← Int.sub_eq_add_neg, Int.natAbs_neg] at h
  exact Nat.le_trans h (Nat.mul_le_mul_left _ (cos32_add_sin32_le k hk))

end Slot

/-! ## The orbit vector and the DC offset of a record -/

theorem orbitAndOffset_of_irregular {r : RevRecord} (h : r.irregular = true) : r.orbitAndOffset = none :=
  if_pos h

theorem orbitAndOffset_of_regular {r : RevRecord} (h : r.irregular = false) :
    r.orbitAndOffset = some (orbitVector r.samples, dcOffset r.samples) :=
  if_neg (by rw [h]; exact Bool.false_ne_true)

theorem orbitVector_ofFn {n : Nat} (x y : Fin n → Int) :
    orbitVector (List.ofFn fun i => .valid (x i) (y i))
      = ⟨roundDiv (List.ofFn fun i => x i * cos32 i + y i * sin32 i).sum 32768,
         roundDiv (List.ofFn fun i => y i * cos32 i - x i * sin32 i).sum 32768⟩ := by
  simp only [orbitVector, orbitSums_ofFn, Nat.zero_add]

theorem dcOffset_ofFn {n : Nat} (x y : Fin n → Int) :
    dcOffset (List.ofFn fun i => .valid (x i) (y i))
      = ⟨roundDiv (List.ofFn x).sum 32, roundDiv (List.ofFn y).sum 32⟩ := by
  simp only [dcOffset, offsetSums_ofFn]

/-- R1: what the model computes is the rounded quotient. -/
theorem isRounded_roundDiv (n : Int) {d : Nat} (hd : 0 < d) : IsRounded (roundDiv n d) n d :=
  (isRounded_iff _ n hd).2 rfl

/-! ## The statement of family 02_orbit_estimation.md -/

/-- Settles O49: a sum of 32 shares of at most 2047 * 1448, rounded over 32768, stays within 2895, and one of 32
components within 2047, rounded over 32, stays within 2047. -/
theorem orbitVectorOfARecord : Obligations.OrbitVectorOfARecord := by
  unfold Obligations.OrbitVectorOfARecord
  intro r
  refine ⟨orbitAndOffset_of_irregular, fun x y hreg hsamples hbound => ?_⟩
  intro sr si
  have hsr : sr.natAbs ≤ 32 * (2047 * 1448) :=
    natAbs_sum_ofFn_le fun k => natAbs_orbit_re_le (hbound k).1 (hbound k).2 k.isLt
  have hsi : si.natAbs ≤ 32 * (2047 * 1448) :=
    natAbs_sum_ofFn_le fun k => natAbs_orbit_im_le (hbound k).1 (hbound k).2 k.isLt
  have hx : (List.ofFn x).sum.natAbs ≤ 32 * 2047 := natAbs_sum_ofFn_le fun k => (hbound k).1
  have hy : (List.ofFn y).sum.natAbs ≤ 32 * 2047 := natAbs_sum_ofFn_le fun k => (hbound k).2
  refine ⟨⟨roundDiv sr 32768, roundDiv si 32768⟩,
    ⟨roundDiv (List.ofFn x).sum 32, roundDiv (List.ofFn y).sum 32⟩, ?value,
    isRounded_roundDiv _ (by decide), isRounded_roundDiv _ (by decide),
    isRounded_roundDiv _ (by decide), isRounded_roundDiv _ (by decide), hsr, hsi,
    natAbs_roundDiv_le hsr 32768, natAbs_roundDiv_le hsi 32768,
    natAbs_roundDiv_le hx 32, natAbs_roundDiv_le hy 32, cos32_add_sin32_le⟩
  case value => rw [orbitAndOffset_of_regular hreg, hsamples, orbitVector_ofFn, dcOffset_ofFn]

end Sys2Proof.Machine
end

section
/-! The marks of the trace queue (09_the_orbit_trace_queue.md, R182): what each says of the number held and the settings,
how they exclude and imply each other, and the three replies that carry them. O60 is put together from these. -/

namespace Sys2Proof.Machine

/-! ## The three marks -/

section Marks
variable (t : TraceQueue)

@[simp] theorem TraceQueue.nearEmpty_iff : t.nearEmpty = true ↔ t.queue.length ≤ t.n :=
  decide_eq_true_iff

@[simp] theorem TraceQueue.nearFull_iff : t.nearFull = true ↔ 32 - t.m ≤ t.queue.length :=
  decide_eq_true_iff

@[simp] theorem TraceQueue.half_iff : t.half = true ↔ 16 < t.queue.length :=
  decide_eq_true_iff

/-- With n = 0 NEAR_EMPTY is "empty". -/
theorem TraceQueue.nearEmpty_iff_nil (hn : t.n = 0) : t.nearEmpty = true ↔ t.queue = [] := by
  rw [nearEmpty_iff, hn, Nat.le_zero, List.length_eq_zero_iff]

/-- With m = 0 NEAR_FULL is "full". -/
theorem TraceQueue.nearFull_iff_full (hm : t.m = 0) (hroom : t.queue.length ≤ 32) :
    t.nearFull = true ↔ t.queue.length = 32 := by
  rw [nearFull_iff, hm]
  omega

variable {t}

/-- The setting m is at most 15, so a queue that is NEAR_FULL holds at least 17. -/
theorem TraceQueue.half_of_nearFull (hm : t.m ≤ 15) (hfull : t.nearFull = true) :
    t.half = true := by
  rw [nearFull_iff] at hfull
  rw [half_iff]
  omega

/-- A queue that is NEAR_EMPTY holds at most 15 and is not above HALF. -/
theorem TraceQueue.not_nearEmpty_and_nearFull (hn : t.n ≤ 15) (hm : t.m ≤ 15) :
    ¬ (t.nearEmpty = true ∧ t.nearFull = true) := by
  rintro ⟨hempty, hfull⟩
  have hhalf : 16 < t.queue.length := t.half_iff.1 (half_of_nearFull hm hfull)
  have hheld : t.queue.length ≤ t.n := t.nearEmpty_iff.1 hempty
  omega

end Marks

/-! ## The replies that carry the marks -/

section Replies
variable {s : State} {b : List Octet}

/-- An accepted request has passed the length and the mode check (R169), so its answer is its block's. -/
theorem State.answer_eq_ownAnswer_of_ok {k : RequestKind} (h : (s.answer k b).result = .ok) :
    s.answer k b = s.ownAnswer k b := by
  unfold State.answer at h ⊢
  split
  next hlen => rw [if_pos hlen] at h; cases h
  next hlen =>
    split
    next hmode => rw [if_neg hlen, if_pos hmode] at h; cases h
    next => rfl

/-- Status page 3 is taken in normal and in service mode, and after the common head it is the page of R186. -/
theorem State.answer_status_page3 (s : State) :
    (s.answer .status [3]).fields.drop (s.statusHead 3).length = s.statusPage3 := by
  have hfields : (s.answer .status [3]).fields = s.statusHead 3 ++ s.statusPage3 := rfl
  rw [hfields, List.drop_left]

theorem State.answerSetTrace_of_ok (h : (s.answerSetTrace b).result = .ok) :
    let t := s.trace.takeSettings b
    s.answerSetTrace b = (s.setTrace t).accept
      [t.flagsOctet, u8 t.n, u8 t.m, u8 t.queue.length, t.marksOctet] := by
  unfold State.answerSetTrace at h ⊢
  split
  next hrange => rw [if_pos hrange] at h; cases h
  next => rfl

theorem State.answerReadTrace_of_ok (h : (s.answerReadTrace b).result = .ok) :
    let out := s.trace.queue.take (b8 b 0)
    let t := { s.trace with queue := s.trace.queue.drop (b8 b 0) }
    s.answerReadTrace b = (s.setTrace t).accept
      ([u8 out.length, u8 t.queue.length, t.marksOctet] ++ traceOctets out) := by
  unfold State.answerReadTrace at h ⊢
  dsimp only at h ⊢
  split
  next hcount => rw [if_pos hcount] at h; cases h
  next hcount =>
    split
    next hpush => rw [if_neg hcount, if_pos hpush] at h; cases h
    next => rfl

/-- R185: the reply carries the number held and the marks as they stand under the new settings. -/
theorem State.answer_setTrace_marks (h : (s.answer .setTrace b).result = .ok) :
    let a := s.answer .setTrace b
    a.fields.getD 3 0 = u8 a.state.trace.queue.length
      ∧ a.fields.getD 4 0 = a.state.trace.marksOctet := by
  have hown : s.answer .setTrace b = s.answerSetTrace b := answer_eq_ownAnswer_of_ok h
  rw [hown] at h ⊢
  rw [answerSetTrace_of_ok h]
  exact ⟨rfl, rfl⟩

/-- R184: the reply carries the number still held and the marks after the records were taken out. -/
theorem State.answer_readTrace_marks (h : (s.answer .readTrace b).result = .ok) :
    let a := s.answer .readTrace b
    a.fields.getD 1 0 = u8 a.state.trace.queue.length
      ∧ a.fields.getD 2 0 = a.state.trace.marksOctet := by
  have hown : s.answer .readTrace b = s.answerReadTrace b := answer_eq_ownAnswer_of_ok h
  rw [hown] at h ⊢
  rw [answerReadTrace_of_ok h]
  exact ⟨rfl, rfl⟩

end Replies

/-! ## The statement of family 09_the_orbit_trace_queue.md -/

/-- Settles O60: each mark by its own rule, and in the replies the marks octet of the queue they leave behind. -/
theorem queueMarks : Obligations.QueueMarks := by
  unfold Obligations.QueueMarks
  intro s q held marks
  refine ⟨q.nearEmpty_iff, q.nearFull_iff, q.half_iff, ?together, q.nearEmpty_iff_nil,
    q.nearFull_iff_full, ?status, fun _ => State.answer_readTrace_marks,
    fun _ => State.answer_setTrace_marks⟩
  case together =>
    exact fun hn hm => ⟨TraceQueue.not_nearEmpty_and_nearFull hn hm, TraceQueue.half_of_nearFull hm⟩
  case status =>
    rw [State.answer_status_page3]
    exact ⟨rfl, rfl⟩

end Sys2Proof.Machine
end

section
/-! What a command is: its effect between the passing of time and the transmitter's choice, and what a step can therefore
do to the blocks outside the Link Port. O1 and O2 are put together here. -/

namespace Sys2Proof

open Machine in
/-- The effect of a command that offers no request frame. -/
def Instr.ownEffect : Instr → State → State
  | .powerOnReset _ lsel, s => s.powerOnReset lsel
  | .indexEdge _ slotFollows, s => s.indexEdge slotFollows
  | .slotEdge _, s => s.slotEdge
  | .pairingWindowExpiry _, s => s.whenDue s.rot.window State.closeWindow
  | .pendingPairingExpiry _, s =>
    s.whenDue (s.rot.pendingSlot.map PendingSlot.timer) State.joinPending
  | .readComplete _ x y, s =>
    s.whenDue (s.samp.read.map ReadInProgress.timer) (fun s => s.readComplete x y)
  | .conversionComplete _ code, s =>
    s.whenDue (s.samp.conv.map Conversion.timer) (fun s => s.conversionComplete code)
  | .standstillExpiry _, s => s.whenDue s.rot.standstill State.standstill
  | .dfltAsserted _, s => s.driveFault
  | .flowPulse _, s => s.flowPulse
  | .svcFalling _, s => s.svcFalls
  | .octetReceived _ octet, s => s.receive octet
  | .lineError _, s => s.dropAssembly .line
  | .gapTimerExpiry _, s => s.whenDue s.link.gapTimer (fun s => s.dropAssembly .gap)
  | .frameSent _, s => s.frameEnds
  | .weighLimitExpiry _, s => s.whenDue s.weigh.limit State.weighLimit
  | .rampTimeout _, s => s.whenDue s.spin.rampTimer State.rampTimeout
  | .sessionTimerExpiry _, s => s.whenDue s.spin.sessionTimer State.durationEnds
  | .clearExpiry _, s => s.whenDue s.table.flush.timer State.clearStep
  | .bleedExpiry _, s => s.whenDue (some s.cham.bleedTimer) State.bleed
  | .supplyTimeout _, s => s.whenDue s.cham.supplyTimer State.supplyTimeout
  | _, s => s

/-- The effect of a command: a request is its frame offered to the receive buffer (R167). -/
def Instr.effect (c : Instr) (s : Machine.State) : Machine.State :=
  match c.frame with
  | some f => s.offerFrame f
  | none => c.ownEffect s

end Sys2Proof

namespace Sys2Proof.Machine

/-- Every command is what has passed, its effect, and the transmitter's choice. -/
theorem exec_eq (c : Instr) (s : State) :
    exec c s = .next (c.effect (s.begin c.wait)).arbitrate := by
  cases c
  case octetReceived w o =>
    show event w s (fun s => s.lineEvent (octetLevel o)) = _
    rw [event_eq, State.lineEvent_octetLevel]
    rfl
  case lineError w =>
    show event w s (fun s => s.lineEvent (fun _ => false)) = _
    rw [event_eq, State.lineEvent_low _ rfl]
    rfl
  all_goals rfl

theorem exec_of_frame {c : Instr} {f : Frame} (h : c.frame = some f) (s : State) :
    exec c s = .next ((s.begin c.wait).offerFrame f).arbitrate := by
  rw [exec_eq, Instr.effect, h]

theorem exec_next_iff {c : Instr} {s t : State} :
    exec c s = .next t ↔ t = (c.effect (s.begin c.wait)).arbitrate := by
  rw [exec_eq, Host.Outcome.next.injEq, eq_comm]

/-- A step takes the command at the front of the queue, or lets one microsecond pass. -/
theorem step_next {s t : State} (h : step s = .next t) :
    t = s.tick ∨ ∃ (c : Instr) (rest : List Instr),
      t = (c.effect ((s.setPending rest).begin c.wait)).arbitrate := by
  unfold step at h
  split at h
  next => exact .inl (Host.Outcome.next.inj h).symm
  next c rest _ => exact .inr ⟨c, rest, exec_next_iff.1 h⟩

/-! ## What a step does to the blocks outside the Link Port -/

/-- Two states whose blocks agree, but for records taken from the front of the trace queue (R183). -/
structure SameBlocks (s t : State) : Prop where
  rot : t.rot = s.rot
  samp : t.samp = s.samp
  est : t.est = s.est
  weigh : t.weigh = s.weigh
  table : t.table = s.table
  spin : t.spin = s.spin
  cham : t.cham = s.cham
  serv : t.serv = s.serv
  trace : ∃ n, t.trace = { s.trace with queue := s.trace.queue.drop n }

theorem SameBlocks.refl (s : State) : SameBlocks s s :=
  ⟨rfl, rfl, rfl, rfl, rfl, rfl, rfl, rfl, 0, rfl⟩

theorem SameBlocks.setLink (s : State) (l : Link) : SameBlocks s (s.setLink l) :=
  ⟨rfl, rfl, rfl, rfl, rfl, rfl, rfl, rfl, 0, rfl⟩

theorem SameBlocks.trans {a b c : State} (h : SameBlocks a b) (k : SameBlocks b c) :
    SameBlocks a c where
  rot := k.rot.trans h.rot
  samp := k.samp.trans h.samp
  est := k.est.trans h.est
  weigh := k.weigh.trans h.weigh
  table := k.table.trans h.table
  spin := k.spin.trans h.spin
  cham := k.cham.trans h.cham
  serv := k.serv.trans h.serv
  trace := by
    obtain ⟨m, hm⟩ := h.trace
    obtain ⟨n, hn⟩ := k.trace
    exact ⟨m + n, by rw [hn, hm, List.drop_drop]⟩

theorem State.arbitrate_sameBlocks (s : State) : SameBlocks s s.arbitrate := by
  unfold State.arbitrate
  split
  next => exact .refl s
  next =>
    split
    next => exact .setLink s _
    next => exact .setLink s _
    next q rest _ _ _ hq => exact ⟨rfl, rfl, rfl, rfl, rfl, rfl, rfl, rfl, 1, by simp [hq]⟩
    next => exact .refl s

/-- The effects that reach the blocks outside the Link Port: those of the events, and those of accepted requests with the
checks they have passed (R169). -/
inductive BlockEvent : State → State → Prop
  | powerOnReset (s : State) (lsel : Bool) : BlockEvent s (s.powerOnReset lsel)
  | indexEdge (s : State) (slotFollows : Bool) : BlockEvent s (s.indexEdge slotFollows)
  | slotEdge (s : State) : BlockEvent s s.slotEdge
  | closeWindow (s : State) : BlockEvent s s.closeWindow
  | joinPending (s : State) : BlockEvent s s.joinPending
  | readComplete (s : State) (x y : BitVec 12) : BlockEvent s (s.readComplete x y)
  | conversionComplete (s : State) (code : BitVec 10) : BlockEvent s (s.conversionComplete code)
  | standstill (s : State) : BlockEvent s s.standstill
  | driveFault (s : State) : BlockEvent s s.driveFault
  | flowPulse (s : State) : BlockEvent s s.flowPulse
  | svcFalls (s : State) : BlockEvent s s.svcFalls
  | weighLimit (s : State) : BlockEvent s s.weighLimit
  | rampTimeout (s : State) : s.spin.rampTimer.isSome = true → BlockEvent s s.rampTimeout
  | durationEnds (s : State) : BlockEvent s s.durationEnds
  | clearStep (s : State) : BlockEvent s s.clearStep
  | bleed (s : State) : BlockEvent s s.bleed
  | supplyTimeout (s : State) : BlockEvent s s.supplyTimeout
  | restart (s : State) : s.spin.state = .idle → BlockEvent s s.restartAll
  | loadLadder (s : State) (b : List Octet) : ladderInRange b = true →
      RequestKind.loadLadder.lengthOk b = true →
      ladderConsistent (bodyLadder b) = true → s.spin.state = .idle →
      BlockEvent s ((s.setSpin (s.spin.takeLadder (bodyLadder b))).setTable
        (s.table.dropBaseline.flushNow s.time))
  | loadParameters (s : State) (p : Params) : p.inRange = true → p.consistent = true →
      s.spin.state = .idle → BlockEvent s (s.setSpin (s.spin.takeParams p))
  | loadBaseline (s : State) (i : Nat) (ks : Vector Pair 4) :
      BlockEvent s (s.setTable (s.table.loadEntries i ks))
  | flushTable (s : State) : BlockEvent s (s.setTable (s.table.flushNow s.time))
  | supplyRefused (s : State) : BlockEvent s (s.setCham { s.cham with pendingFault := none })
  | startSpin (s : State) (t seconds : Nat) (continuation : Bool) : s.serv.mode = false →
      s.spin.badStart t = false → s.spin.state = .idle → s.profileComplete = true →
      BlockEvent s (s.beginSession t seconds continuation)
  | setTarget (s : State) (t : Nat) : s.spin.badTarget t = false →
      s.spin.state.takesTarget = true →
      BlockEvent s ((s.setSpin { s.spin with target := some t }).applyTarget t)
  | stop (s : State) : BlockEvent s (s.closeActive .stop)
  | setTrace (s : State) (b : List Octet) : traceSettingsInRange b = true →
      BlockEvent s (s.setTrace (s.trace.takeSettings b))
  | readTrace (s : State) (n : Nat) :
      BlockEvent s (s.setTrace { s.trace with queue := s.trace.queue.drop n })
  | serviceEnter (s : State) : s.spin.state = .idle →
      BlockEvent s (s.setServ { s.serv with mode := true })
  | serviceLeave (s : State) : BlockEvent s s.leaveService
  | depositSlot (s : State) (i : Nat) (slot : Slot) (choice : ValidChoice) :
      (choice = .standby → s.table.flush.isClearing = false) →
      BlockEvent s (s.setTable (s.table.deposit i slot choice))
  | depositChamber (s : State) (c : Fin 4) (grams : Nat) : BlockEvent s (s.depositContent c grams)
  | manualFill (s : State) (b : List Octet) : s.serv.mode = true → 1 ≤ (manualOrder b).amount →
      BlockEvent s (s.takeOrder (manualOrder b))
  | stopAll (s : State) : BlockEvent s (s.endAll .stopped)
  | stopChamber (s : State) (c : Fin 4) : BlockEvent s (s.stopChamber c).1
  | forceBaseline (s : State) (low high : Bool) :
      BlockEvent s (s.setServ { s.serv with forceLow := low, forceHigh := high })

/-- A stretch of a step seen from the blocks outside the Link Port: nothing, or one of the effects. -/
def BlockStep (s t : State) : Prop :=
  ∃ u v, SameBlocks s u ∧ (v = u ∨ BlockEvent u v) ∧ SameBlocks v t

theorem BlockStep.refl (s : State) : BlockStep s s := ⟨s, s, .refl s, .inl rfl, .refl s⟩

theorem BlockStep.same {s t : State} (h : SameBlocks s t) : BlockStep s t :=
  ⟨s, s, .refl s, .inl rfl, h⟩

theorem BlockStep.event {s t : State} (h : BlockEvent s t) : BlockStep s t :=
  ⟨s, t, .refl s, .inr h, .refl t⟩

theorem BlockStep.before {s u t : State} (h : SameBlocks s u) (k : BlockStep u t) :
    BlockStep s t := by
  obtain ⟨a, b, ha, hb, hc⟩ := k
  exact ⟨a, b, h.trans ha, hb, hc⟩

theorem BlockStep.after {s u t : State} (h : BlockStep s u) (k : SameBlocks u t) :
    BlockStep s t := by
  obtain ⟨a, b, ha, hb, hc⟩ := h
  exact ⟨a, b, ha, hb, hc.trans k⟩

theorem BlockStep.ite {s t : State} {p : Prop} [Decidable p] (h : p → BlockStep s t) :
    BlockStep s (if p then t else s) := by
  split
  next hp => exact h hp
  next => exact .refl s

theorem State.whenDue_blocks (s : State) (t : Option Timer) {e : State → State}
    (h : t.isSome = true → BlockStep s (e s)) : BlockStep s (s.whenDue t e) := by
  unfold State.whenDue
  refine BlockStep.ite fun hdue => h ?_
  cases t
  · cases hdue
  · rfl

section Requests
variable (s : State) (b : List Octet)

/-- An accepted request is one of the effects; a refused one, and one that only reads, is none. -/
theorem State.ownAnswer_blocks {k : RequestKind} (hlen : k.lengthOk b = true)
    (hmode : s.modeOk k = true) : BlockStep s (s.ownAnswer k b).state := by
  cases k
  case identify => exact .refl s
  case status =>
    unfold State.ownAnswer State.answerStatus
    dsimp only
    split
    · exact .refl s
    · exact .same (.setLink s _)
  case restart =>
    unfold State.ownAnswer State.answerRestart
    dsimp only
    split
    · exact .refl s
    next hidle => exact .event (.restart s (Classical.not_not.1 hidle))
  case loadLadder =>
    unfold State.ownAnswer State.answerLoadLadder
    dsimp only
    split
    · exact .refl s
    next hrange =>
    split
    · exact .refl s
    next hcomb =>
    split
    · exact .refl s
    next hidle =>
    exact .event (.loadLadder s b (by simpa using hrange) hlen (by simpa using hcomb)
      (Classical.not_not.1 hidle))
  case loadParameters =>
    unfold State.ownAnswer State.answerLoadParameters
    dsimp only
    split
    · exact .refl s
    next hrange =>
    split
    · exact .refl s
    next hcomb =>
    split
    · exact .refl s
    next hidle =>
    exact .event (.loadParameters s _ (by simpa using hrange) (by simpa using hcomb)
      (Classical.not_not.1 hidle))
  case loadBaseline =>
    unfold State.ownAnswer State.answerLoadBaseline
    dsimp only
    split
    · exact .refl s
    split
    · exact .refl s
    · exact .event (.loadBaseline s _ _)
  case flushTable => exact .event (.flushTable s)
  case startSpin =>
    unfold State.ownAnswer State.answerStartSpin
    dsimp only
    split
    · exact .refl s
    split
    · exact .refl s
    next hcomb =>
    split
    · exact .refl s
    next hidle =>
    split
    · exact .refl s
    next hprofile =>
    split
    · exact .event (.supplyRefused s)
    · exact .event (.startSpin s _ _ _ (by simpa [State.modeOk, RequestKind.modeClass] using hmode)
        (by simpa using hcomb) (Classical.not_not.1 hidle) (by simpa using hprofile))
  case setTarget =>
    unfold State.ownAnswer State.answerSetTarget
    dsimp only
    split
    · exact .refl s
    split
    · exact .refl s
    next hcomb =>
    split
    · exact .refl s
    next hstate => exact .event (.setTarget s _ (by simpa using hcomb) (by simpa using hstate))
  case stop => exact .event (.stop s)
  case queryEstimate =>
    unfold State.ownAnswer State.answerQueryEstimate
    dsimp only
    split <;> exact .refl s
  case setTrace =>
    unfold State.ownAnswer State.answerSetTrace
    dsimp only
    split
    · exact .refl s
    next hrange => exact .event (.setTrace s b (by simpa using hrange))
  case readTrace =>
    unfold State.ownAnswer State.answerReadTrace
    dsimp only
    split
    · exact .refl s
    split
    · exact .refl s
    · exact .event (.readTrace s _)
  case serviceEnter =>
    unfold State.ownAnswer State.answerServiceEnter
    dsimp only
    split
    · exact .refl s
    next hidle => exact .event (.serviceEnter s (Classical.not_not.1 hidle))
  case serviceLeave => exact .event (.serviceLeave s)
  case examine =>
    unfold State.ownAnswer State.answerExamine
    dsimp only
    split <;> exact .refl s
  case deposit =>
    unfold State.ownAnswer State.answerDeposit State.answerDepositSlot State.answerDepositChamber
    dsimp only
    split
    · split
      · exact .refl s
      split
      · exact .refl s
      next hstandby =>
        exact .event (.depositSlot s _ _ _ fun h => by simpa [h] using hstandby)
    split
    · split
      · exact .refl s
      · exact .event (.depositChamber s _ _)
    · exact .refl s
  case manualFill =>
    unfold State.ownAnswer State.answerManualFill
    dsimp only
    split
    · exact .refl s
    next hrange =>
    split
    · exact .refl s
    split
    · exact .event (.supplyRefused s)
    · refine .event (.manualFill s b hmode ?_)
      simp only [within, Bool.not_eq_true', Bool.and_eq_false_iff, decide_eq_false_iff_not,
        not_or, Classical.not_not] at hrange
      exact hrange.2.1
  case stopFill =>
    unfold State.ownAnswer State.answerStopFill
    dsimp only
    split
    · exact .refl s
    split
    · exact .event (.stopAll s)
    · exact .event (.stopChamber s _)
  case forceBaseline =>
    unfold State.ownAnswer State.answerForceBaseline
    dsimp only
    split
    · exact .refl s
    · exact .event (.forceBaseline s _ _)

theorem State.answer_blocks (k : RequestKind) : BlockStep s (s.answer k b).state := by
  unfold State.answer
  split
  · exact .refl s
  next hlen =>
  split
  · exact .refl s
  next hmode => exact s.ownAnswer_blocks b (by simpa using hlen) (by simpa using hmode)

theorem State.handle_blocks (f : Frame) : BlockStep s (s.handle f) := by
  have h : BlockStep s (s.answerFrame f).1 := by
    unfold State.answerFrame
    split
    · exact s.answer_blocks _ _
    · exact .refl s
  exact h.after (.setLink _ _)

theorem State.offerFrame_blocks (f : Frame) : BlockStep s (s.offerFrame f) := by
  unfold State.offerFrame
  split
  · exact (State.handle_blocks _ f).before (.setLink s _)
  · split
    · exact .same (.setLink s _)
    · exact .same (.setLink s _)

theorem State.receive_blocks (o : Octet) : BlockStep s (s.receive o) := by
  refine BlockStep.before (.setLink s (s.link.setRx s.time (rxOctet s.link.rx o).1)) ?_
  unfold State.receive State.rxEvent
  split
  · exact .refl _
  · exact .same (.setLink _ _)
  · exact State.offerFrame_blocks _ _

theorem State.dropAssembly_blocks (r : DiscardReason) : BlockStep s (s.dropAssembly r) := by
  unfold State.dropAssembly
  split
  · exact .refl s
  · exact .same ((SameBlocks.setLink s _).trans (.setLink _ _))

theorem State.frameEnds_blocks : BlockStep s s.frameEnds := by
  unfold State.frameEnds
  split
  · exact .refl s
  · dsimp only
    split
    · refine BlockStep.before (.setLink s { s.link with tx := none }) ?_
      unfold State.serviceDone
      dsimp only
      split
      · exact (State.handle_blocks _ _).before (.setLink _ _)
      · exact .same (.setLink _ _)
    · exact .same (.setLink s _)

end Requests

theorem ownEffect_blocks (c : Instr) (s : State) : BlockStep s (c.ownEffect s) := by
  cases c
  case powerOnReset w l => exact .event (.powerOnReset s l)
  case indexEdge w b => exact .event (.indexEdge s b)
  case slotEdge w => exact .event (.slotEdge s)
  case pairingWindowExpiry w => exact s.whenDue_blocks _ fun _ => .event (.closeWindow s)
  case pendingPairingExpiry w => exact s.whenDue_blocks _ fun _ => .event (.joinPending s)
  case readComplete w x y =>
    exact s.whenDue_blocks (e := fun s => s.readComplete x y) _ fun _ =>
      .event (.readComplete s x y)
  case conversionComplete w code =>
    exact s.whenDue_blocks (e := fun s => s.conversionComplete code) _ fun _ =>
      .event (.conversionComplete s code)
  case standstillExpiry w => exact s.whenDue_blocks _ fun _ => .event (.standstill s)
  case dfltAsserted w => exact .event (.driveFault s)
  case flowPulse w => exact .event (.flowPulse s)
  case svcFalling w => exact .event (.svcFalls s)
  case octetReceived w o => exact s.receive_blocks o
  case lineError w => exact s.dropAssembly_blocks _
  case gapTimerExpiry w =>
    exact s.whenDue_blocks (e := fun s => s.dropAssembly .gap) _ fun _ => s.dropAssembly_blocks _
  case frameSent w => exact s.frameEnds_blocks
  case weighLimitExpiry w => exact s.whenDue_blocks _ fun _ => .event (.weighLimit s)
  case rampTimeout w => exact s.whenDue_blocks _ fun h => .event (.rampTimeout s h)
  case sessionTimerExpiry w => exact s.whenDue_blocks _ fun _ => .event (.durationEnds s)
  case clearExpiry w => exact s.whenDue_blocks _ fun _ => .event (.clearStep s)
  case bleedExpiry w => exact s.whenDue_blocks _ fun _ => .event (.bleed s)
  case supplyTimeout w => exact s.whenDue_blocks _ fun _ => .event (.supplyTimeout s)
  all_goals exact .refl s

theorem effect_blocks (c : Instr) (s : State) : BlockStep s (c.effect s) := by
  unfold Instr.effect
  split
  · exact s.offerFrame_blocks _
  · exact ownEffect_blocks c s

/-- What a step can do to the blocks outside the Link Port. -/
theorem step_blocks {s t : State} (h : step s = .next t) : BlockStep s t := by
  obtain rfl | ⟨c, rest, rfl⟩ := step_next h
  · exact .same ⟨rfl, rfl, rfl, rfl, rfl, rfl, rfl, rfl, 0, rfl⟩
  · have hbegin : SameBlocks s ((s.setPending rest).begin c.wait) :=
      ⟨rfl, rfl, rfl, rfl, rfl, rfl, rfl, rfl, 0, rfl⟩
    exact ((effect_blocks c _).before hbegin).after (State.arbitrate_sameBlocks _)

/-- A relation between blocks that every effect keeps is kept by every step. -/
theorem step_keeps {P : State → Prop} (hsame : ∀ {s t}, SameBlocks s t → P s → P t)
    (hevent : ∀ {s t}, BlockEvent s t → P s → P t) {s t : State} (h : step s = .next t) (hs : P s) :
    P t := by
  obtain ⟨u, v, hu, hv, ht⟩ := step_blocks h
  refine hsame ht ?_
  obtain rfl | hv := hv
  · exact hsame hu hs
  · exact hevent hv (hsame hu hs)

/-! ## What every command leaves alone -/

/-- The time count and the queue of commands are the same. -/
structure SameClock (s t : State) : Prop where
  time : t.time = s.time
  pending : t.pending = s.pending

theorem SameClock.refl (s : State) : SameClock s s := ⟨rfl, rfl⟩

theorem SameClock.trans {a b c : State} (h : SameClock a b) (k : SameClock b c) : SameClock a c :=
  ⟨k.time.trans h.time, k.pending.trans h.pending⟩

theorem SameClock.setLink (s : State) (l : Link) : SameClock s (s.setLink l) := ⟨rfl, rfl⟩

theorem SameClock.ofBlock {s t : State} (h : BlockFrame s t) : SameClock s t := ⟨h.time, h.pending⟩

section Clock
variable (s : State)

theorem State.handle_sameClock (f : Frame) : SameClock s (s.handle f) :=
  have h := s.answerFrame_frame f
  ⟨h.time, h.pending⟩

theorem State.offerFrame_sameClock (f : Frame) : SameClock s (s.offerFrame f) := by
  unfold State.offerFrame
  split
  · exact (SameClock.setLink s _).trans (State.handle_sameClock _ f)
  · split <;> exact .setLink s _

theorem State.receive_sameClock (o : Octet) : SameClock s (s.receive o) := by
  refine (SameClock.setLink s (s.link.setRx s.time (rxOctet s.link.rx o).1)).trans ?_
  unfold State.receive State.rxEvent
  split
  · exact .refl _
  · exact .setLink _ _
  · exact State.offerFrame_sameClock _ _

theorem State.dropAssembly_sameClock (r : DiscardReason) : SameClock s (s.dropAssembly r) := by
  unfold State.dropAssembly
  split
  · exact .refl s
  · exact .setLink s _

theorem State.frameEnds_sameClock : SameClock s s.frameEnds := by
  unfold State.frameEnds State.serviceDone
  split
  · exact .refl s
  · dsimp only
    split
    · split
      · have h := State.handle_sameClock
        exact ⟨(h _ _).time, (h _ _).pending⟩
      · exact ⟨rfl, rfl⟩
    · exact ⟨rfl, rfl⟩

theorem State.whenDue_sameClock (t : Option Timer) {e : State → State} (h : SameClock s (e s)) :
    SameClock s (s.whenDue t e) := by
  unfold State.whenDue
  split
  · exact h
  · exact .refl s

theorem State.readComplete_frame (x y : BitVec 12) : BlockFrame s (s.readComplete x y) := by
  unfold State.readComplete
  split
  · exact s.readDone_frame _ _
  · exact .refl s

theorem State.conversionComplete_frame (code : BitVec 10) :
    BlockFrame s (s.conversionComplete code) := by
  unfold State.conversionComplete
  split
  · exact s.conversionDone_frame _ _
  · exact .refl s

theorem State.svcFalls_sameClock : SameClock s s.svcFalls := by
  unfold State.svcFalls
  dsimp only
  split
  · have h := State.leaveService_frame (s.setPins { s.pins with svc := false })
    exact ⟨h.time, h.pending⟩
  · exact ⟨rfl, rfl⟩

theorem State.driveFault_sameClock : SameClock s s.driveFault := by
  have h := State.abortOn_frame (s.setPins { s.pins with dflt := true }) .drive
  exact ⟨h.time, h.pending⟩

/-- R5: but for power-on reset, an effect leaves the time count to what passes between the commands. -/
theorem ownEffect_sameClock {c : Instr} (hc : ∀ w l, c ≠ .powerOnReset w l) :
    SameClock s (c.ownEffect s) := by
  cases c
  case powerOnReset w l => exact absurd rfl (hc w l)
  case indexEdge w b => exact .ofBlock (s.indexEdge_frame b)
  case slotEdge w => exact .ofBlock s.slotEdge_frame
  case pairingWindowExpiry w => exact s.whenDue_sameClock _ (.ofBlock (.setRot s _))
  case pendingPairingExpiry w => exact s.whenDue_sameClock _ (.ofBlock s.joinPending_frame)
  case readComplete w x y =>
    exact s.whenDue_sameClock (e := fun s => s.readComplete x y) _
      (.ofBlock (s.readComplete_frame x y))
  case conversionComplete w code =>
    exact s.whenDue_sameClock (e := fun s => s.conversionComplete code) _
      (.ofBlock (s.conversionComplete_frame code))
  case standstillExpiry w => exact s.whenDue_sameClock _ (.ofBlock s.standstill_frame)
  case dfltAsserted w => exact s.driveFault_sameClock
  case flowPulse w => exact .ofBlock s.flowPulse_frame
  case svcFalling w => exact s.svcFalls_sameClock
  case octetReceived w o => exact s.receive_sameClock o
  case lineError w => exact s.dropAssembly_sameClock _
  case gapTimerExpiry w =>
    exact s.whenDue_sameClock (e := fun s => s.dropAssembly .gap) _ (s.dropAssembly_sameClock _)
  case frameSent w => exact s.frameEnds_sameClock
  case weighLimitExpiry w => exact s.whenDue_sameClock _ (.ofBlock s.weighLimit_frame)
  case rampTimeout w => exact s.whenDue_sameClock _ (.ofBlock s.rampTimeout_frame)
  case sessionTimerExpiry w => exact s.whenDue_sameClock _ (.ofBlock s.durationEnds_frame)
  case clearExpiry w => exact s.whenDue_sameClock _ (.ofBlock s.clearStep_frame)
  case bleedExpiry w => exact s.whenDue_sameClock _ (.ofBlock s.bleed_frame)
  case supplyTimeout w => exact s.whenDue_sameClock _ (.ofBlock s.supplyTimeout_frame)
  all_goals exact .refl s

theorem effect_sameClock {c : Instr} (hc : ∀ w l, c ≠ .powerOnReset w l) :
    SameClock s (c.effect s) := by
  unfold Instr.effect
  split
  · exact s.offerFrame_sameClock _
  · exact ownEffect_sameClock s hc

theorem State.arbitrate_sameClock : SameClock s s.arbitrate := by
  obtain ⟨l, t, h⟩ := s.arbitrate_parts
  rw [h]
  exact ⟨rfl, rfl⟩

end Clock

/-! ## The statements about the step and every command -/

/-- Settles O1. -/
theorem stepRunsTheFrontCommand : Obligations.StepRunsTheFrontCommand := by
  unfold Obligations.StepRunsTheFrontCommand
  refine fun s => ⟨fun c rest h => ?_, fun h => ?_⟩
  · rw [step, h]
  · unfold step
    split
    next => rfl
    next c rest hp => cases h.symm.trans hp

/-- Settles O2. -/
theorem everyCommandCompletes : Obligations.EveryCommandCompletes := by
  unfold Obligations.EveryCommandCompletes
  intro c s
  have harb := (c.effect (s.begin c.wait)).arbitrate_sameClock
  refine ⟨_, exec_eq c s, ?_, fun hc => ?_, ?_⟩
  · rw [harb.pending]
    by_cases hc : ∃ w l, c = .powerOnReset w l
    · obtain ⟨w, l, rfl⟩ := hc
      rfl
    · exact (effect_sameClock _ fun w l h => hc ⟨w, l, h⟩).pending
  · rw [harb.time, (effect_sameClock _ hc).time]
    rfl
  · rintro w l rfl
    exact harb.time

end Sys2Proof.Machine
end

section
/-! The Chamber Controller's ends of orders written out (R147 to R150, R153): what is left when the order in flight ends
alone, and when every order ends with it. -/

namespace Sys2Proof.Machine

/-! ## Last ends and the rest of the chamber records -/

theorem ChamberCtl.setLastEnds_with (t : ChamberCtl) (r : EndReason) (os : List Order)
    (q : List Order) (f : Option Flight) (timer : Option Timer) (leak : Nat) :
    ({ t with queue := q, flight := f, supplyTimer := timer, leak := leak }).setLastEnds r os
      = { t.setLastEnds r os with queue := q, flight := f, supplyTimer := timer, leak := leak } := by
  induction os generalizing t with
  | nil => rfl
  | cons o rest ih => exact ih (t.setLastEnd o.chamber r)

@[simp] theorem ChamberCtl.setLastEnds_supplyTimer (t : ChamberCtl) (r : EndReason)
    (os : List Order) : (t.setLastEnds r os).supplyTimer = t.supplyTimer := by
  induction os generalizing t with
  | nil => rfl
  | cons o rest ih => exact ih _

@[simp] theorem ChamberCtl.setLastEnds_leak (t : ChamberCtl) (r : EndReason)
    (os : List Order) : (t.setLastEnds r os).leak = t.leak := by
  induction os generalizing t with
  | nil => rfl
  | cons o rest ih => exact ih _

@[simp] theorem ChamberCtl.setLastEnds_pendingFault (t : ChamberCtl) (r : EndReason)
    (os : List Order) : (t.setLastEnds r os).pendingFault = t.pendingFault := by
  induction os generalizing t with
  | nil => rfl
  | cons o rest ih => exact ih _

section
variable (s : State)

/-! ## The hand-on of an end (R148) -/

theorem State.handEnd_service {o : Order} (h : o.origin = .service) (g : Nat) (r : EndReason) :
    s.handEnd o g r = s := by
  rw [State.handEnd, h]

theorem State.handEnd_planner {o : Order} (h : o.origin = .planner) (g : Nat) (r : EndReason) :
    s.handEnd o g r = s.setEst (s.est.orderEnd o.chamber g r) := by
  rw [State.handEnd, h]

theorem State.handEnd_eq (o : Order) (g : Nat) (r : EndReason) :
    s.handEnd o g r = s.setEst
      (if o.origin = .planner then s.est.orderEnd o.chamber g r else s.est) := by
  cases h : o.origin with
  | planner => rw [s.handEnd_planner h, if_pos rfl]
  | service =>
    rw [s.handEnd_service h, if_neg (by simp)]
    rfl

theorem State.handEnd_setCham (t : ChamberCtl) (o : Order) (g : Nat) (r : EndReason) :
    (s.setCham t).handEnd o g r = (s.handEnd o g r).setCham t := by
  rw [State.handEnd_eq, State.handEnd_eq]
  rfl

theorem State.handDropped_setCham (t : ChamberCtl) (r : EndReason) (os : List Order) :
    (s.setCham t).handDropped r os = (s.handDropped r os).setCham t := by
  induction os generalizing s with
  | nil => rfl
  | cons o rest ih => rw [State.handDropped, State.handEnd_setCham, ih, State.handDropped]

theorem State.handDropped_service {os : List Order} (h : ∀ o ∈ os, o.origin = .service)
    (r : EndReason) : s.handDropped r os = s := by
  induction os with
  | nil => rfl
  | cons o rest ih =>
    rw [State.handDropped, s.handEnd_service (h o List.mem_cons_self)]
    exact ih fun q hq => h q (List.mem_cons_of_mem o hq)

/-! ## The order in flight ends (R147) -/

/-- R147: the state in which the order in flight has ended with its report, before the end is handed on. -/
def State.flightOver (s : State) (f : Flight) (r : EndReason) : State :=
  giveReport (.fillEnd ⟨f.order, f.pulses, f.delivered, r, s.cham.content f.order.chamber, []⟩)
    (s.setCham { s.cham.setLastEnd f.order.chamber r with flight := none, supplyTimer := none })

theorem State.endFlight_eq {f : Flight} (h : s.cham.flight = some f) (r : EndReason) :
    s.endFlight r [] = (s.flightOver f r).handEnd f.order f.delivered r := by
  rw [State.endFlight, h]
  rfl

theorem State.endAndGoOn_eq {f : Flight} (h : s.cham.flight = some f) (r : EndReason) :
    s.endAndGoOn r
      = (((s.flightOver f r).handEnd f.order f.delivered r).startNext).lineClosed := by
  rw [State.endAndGoOn, h, s.endFlight_eq h]
  rfl

/-! ## Every order ends (R149, R150, R152) -/

theorem State.endAll_none (h : s.cham.flight = none) (r : EndReason) : s.endAll r = s := by
  rw [State.endAll, h]
  rfl

/-- The chamber records after every order has ended: the valves closed and nothing queued. -/
def ChamberCtl.allOver (t : ChamberCtl) (f : Flight) (r : EndReason) : ChamberCtl :=
  { (t.setLastEnd f.order.chamber r).setLastEnds r t.queue with
    flight := none, supplyTimer := none, queue := [], leak := 0 }

theorem State.endAll_eq {f : Flight} (h : s.cham.flight = some f) (r : EndReason) :
    s.endAll r =
      ((giveReport (.fillEnd ⟨f.order, f.pulses, f.delivered, r, s.cham.content f.order.chamber,
          s.cham.queue⟩) (s.setCham (s.cham.allOver f r))).handEnd f.order f.delivered r).handDropped
        r s.cham.queue := by
  have hqueue : ({ s.cham with queue := [] }.setLastEnd f.order.chamber r).setLastEnds r s.cham.queue
      = { (s.cham.setLastEnd f.order.chamber r).setLastEnds r s.cham.queue with queue := [] } :=
    (s.cham.setLastEnd f.order.chamber r).setLastEnds_with r s.cham.queue [] s.cham.flight
      s.cham.supplyTimer s.cham.leak |>.trans (by simp; exact ⟨rfl, rfl⟩)
  rw [State.endAll, h, if_pos (Option.isSome_some)]
  dsimp only
  rw [State.endFlight, show (s.setCham { s.cham with queue := [] }).cham.flight = some f from h]
  dsimp only [State.setCham_cham]
  rw [hqueue, State.lineClosed, State.handDropped_cham, State.handEnd_cham, if_neg (by simp)]
  rw [← State.handDropped_setCham, ← State.handEnd_setCham]
  rfl

theorem State.endAll_cham {f : Flight} (h : s.cham.flight = some f) (r : EndReason) :
    (s.endAll r).cham = s.cham.allOver f r := by
  rw [s.endAll_eq h, State.handDropped_cham, State.handEnd_cham]
  rfl

theorem State.endAll_flight (r : EndReason) : (s.endAll r).cham.flight = none := by
  cases h : s.cham.flight with
  | none => rw [s.endAll_none h, h]
  | some f => rw [s.endAll_cham h]; rfl

end

end Sys2Proof.Machine
end

section
/-! The Spin Controller's changes of state as one updated state each: the start of a ramp, the closing of a session and its
end (R118, R134, R136, R138). -/

namespace Sys2Proof.Machine

section
variable (s : State)

/-! ## Ramps (R118) -/

theorem msTimer_rampAllowanceMs (p : Spin) (now : Stamp) (dst from_ : Nat) :
    msTimer now (rampAllowanceMs p.par.rampAllowance dst from_) = ⟨now, p.rampUs dst from_⟩ := by
  have hdist : max dst from_ - min dst from_ = (dst - from_) + (from_ - dst) := by omega
  rw [msTimer, rampAllowanceMs, hdist, Spin.rampUs]

/-- R135: a plan's fills stop when BALANCING is left. -/
def State.plateauLeft : State := if s.spin.state = .balancing then s.endAll .stopped else s

theorem State.plateauLeft_frame : WaterFrame s s.plateauLeft := by
  unfold State.plateauLeft
  split
  · exact s.endAll_frame _
  · exact .refl s

theorem State.leavePlateau_eq : s.leavePlateau =
    { s.plateauLeft with
      est := { s.plateauLeft.est with window := [], m := 0, preFill := none } } := rfl

/-- R118, R99, R33, R41, R135: what the start of a ramp does. -/
theorem State.setRamp_enter_eq (i : Nat) (dir : Dir) (new : SpinState) (reason : StateReason) :
    ((s.leavePlateau.setRamp i dir).noPlans).enter new reason =
      giveReport
        (.state ⟨new, s.spin.state, reason, s.spin.dwell, some i, some dir, s.spin.target,
          s.spin.ceiling, s.spin.speedOf i⟩)
        { s.plateauLeft with
          spin := { s.spin with
            state := new, dest := some i, dir := some dir, demand := s.spin.speedOf i
            rampCount := 0
            rampTimer := some ⟨s.time, s.spin.rampUs (s.spin.speedOf i) s.rot.speed⟩
            plans := 0 }
          est := { s.plateauLeft.est with window := [], m := 0, preFill := none } } := by
  have hf := s.leavePlateau_frame
  rw [State.setRamp, msTimer_rampAllowanceMs, hf.time, s.leavePlateau_spin, hf.rot, s.leavePlateau_eq]
  rfl

theorem State.startRamping_eq (i : Nat) (dir : Dir) (reason : StateReason) :
    s.startRamping i dir reason =
      giveReport
        (.state ⟨.ramping, s.spin.state, reason, s.spin.dwell, some i, some dir, s.spin.target,
          s.spin.ceiling, s.spin.speedOf i⟩)
        { s.plateauLeft with
          spin := { s.spin with
            state := .ramping, dest := some i, dir := some dir, demand := s.spin.speedOf i
            rampCount := 0
            rampTimer := some ⟨s.time, s.spin.rampUs (s.spin.speedOf i) s.rot.speed⟩
            plans := 0 }
          est := { s.plateauLeft.est with window := [], m := 0, preFill := none } } :=
  s.setRamp_enter_eq i dir .ramping reason

theorem State.startRetreating_eq (i : Nat) (reason : StateReason) :
    s.startRetreating i reason = s.descending i reason :=
  s.setRamp_enter_eq i .down .retreating reason

theorem State.startRamping_spin (i : Nat) (dir : Dir) (reason : StateReason) :
    (s.startRamping i dir reason).spin = { s.spin with
      state := .ramping, dest := some i, dir := some dir, demand := s.spin.speedOf i, rampCount := 0
      rampTimer := some ⟨s.time, s.spin.rampUs (s.spin.speedOf i) s.rot.speed⟩, plans := 0 } := by
  rw [s.startRamping_eq]
  rfl

theorem State.descending_spin (i : Nat) (reason : StateReason) :
    (s.descending i reason).spin = { s.spin with
      state := .retreating, dest := some i, dir := some .down, demand := s.spin.speedOf i
      rampCount := 0
      rampTimer := some ⟨s.time, s.spin.rampUs (s.spin.speedOf i) s.rot.speed⟩, plans := 0 } := rfl

theorem State.startRamping_weigh (i : Nat) (dir : Dir) (reason : StateReason) :
    (s.startRamping i dir reason).weigh = s.weigh := by
  rw [s.startRamping_eq]
  exact s.plateauLeft_frame.weigh

theorem State.descending_weigh (i : Nat) (reason : StateReason) :
    (s.descending i reason).weigh = s.weigh := s.plateauLeft_frame.weigh

theorem State.descending_serv (i : Nat) (reason : StateReason) :
    (s.descending i reason).serv = s.serv := s.plateauLeft_frame.serv

/-! ## Entering BALANCING (R122) -/

theorem State.enterBalancing_spin (i : Nat) (a k : Pair) (orders : List Order) :
    (s.enterBalancing i a k orders).spin = { s.spin with state := .balancing } :=
  congrArg (fun p : Spin => { p with state := .balancing })
    (State.takeOrders_frame (s.setEst { s.est.emptied with
      preFill := some ⟨i, a, k, Vector.replicate 4 0⟩ }) orders).spin

/-! ## The end of a session (R138) -/

theorem State.endSession_eq : s.endSession = s.sessionEnded := rfl

theorem State.endSession_cham : s.endSession.cham = s.cham := by simp [State.endSession]

theorem State.endSession_state : s.endSession.spin.state = .idle := by simp [State.endSession]

theorem State.endIfStopped_eq : s.endIfStopped = s.endedIfStopped := rfl

/-! ## Closing (R134, R136, R58) -/

theorem Conversion.dropSums_eq (c : Conversion) :
    c.dropSums = if c.dest = .pending then c else { c with dest := .nowhere } := by
  obtain ⟨timer, dest⟩ := c
  cases dest <;> rfl

theorem Sampler.dropSums_eq (m : Sampler) : m.dropSums = { m with
    conv := m.conv.map (fun v => if v.dest = .pending then v else { v with dest := .nowhere }) } := by
  rw [Sampler.dropSums, funext Conversion.dropSums_eq]

theorem State.discardWeighing_eq : s.discardWeighing =
    { s with
      weigh := if s.spin.state = .weighing then { Weigh.reset with result := s.weigh.result }
        else s.weigh
      samp := if s.spin.state = .weighing then { s.samp with
          conv := s.samp.conv.map (fun v => if v.dest = .pending then v else { v with dest := .nowhere }) }
        else s.samp } := by
  unfold State.discardWeighing
  split
  · rw [Sampler.dropSums_eq]
    rfl
  · rfl

/-- What leaving the state and discarding the weighing do together. -/
theorem State.discardWeighing_leavePlateau : s.leavePlateau.discardWeighing =
    { s.plateauLeft with
      est := { s.plateauLeft.est with window := [], m := 0, preFill := none }
      weigh := if s.spin.state = .weighing then { Weigh.reset with result := s.weigh.result }
        else s.weigh
      samp := if s.spin.state = .weighing then { s.samp with
          conv := s.samp.conv.map (fun v => if v.dest = .pending then v else { v with dest := .nowhere }) }
        else s.samp } := by
  rw [State.discardWeighing_eq, s.leavePlateau_spin, s.leavePlateau_eq]
  dsimp only
  rw [s.plateauLeft_frame.weigh, s.plateauLeft_frame.samp, s.plateauLeft_frame.spin]

theorem State.closed_enter_eq (new : SpinState) (c : Cause) (den brk : Bool) :
    (s.leavePlateau.discardWeighing.setSpin { s.spin.closed c with den := den, brk := brk }).enter new
      (.closing c) = s.sessionClosed new c den brk := by
  rw [s.discardWeighing_leavePlateau]
  rfl

/-- R136: what the entry to WINDDOWN does. -/
theorem State.enterWinddown_eq (c : Cause) :
    s.enterWinddown c = (s.sessionClosed .winddown c s.spin.den s.spin.brk).endedIfStopped := by
  rw [← s.closed_enter_eq, ← State.endIfStopped_eq, State.enterWinddown]
  dsimp only
  rw [State.discardWeighing_spin, State.leavePlateau_spin]
  rfl

/-- R134: what the entry to ABORTING does. -/
theorem State.enterAborting_eq (c : Cause) :
    s.enterAborting c = (s.sessionClosed .aborting c false true).endedIfStopped := by
  rw [← s.closed_enter_eq, ← State.endIfStopped_eq, State.enterAborting]
  dsimp only
  rw [State.discardWeighing_spin, State.leavePlateau_spin]

end

end Sys2Proof.Machine
end

section
/-! The table and the trace queue under their operations: the marks behind the clear position, the hit history and the
counts stay in their bounds (R76, R78, R181, R182). -/

namespace Sys2Proof.Machine

/-! ## The Influence Table -/

/-- What a change of the table keeps: no mark behind the clear position, and the length of the hit history. -/
structure TableKept (t u : Table) : Prop where
  clear : t.ClearOk → u.ClearOk
  history : t.history.length ≤ 6 → u.history.length ≤ 6

theorem TableKept.refl (t : Table) : TableKept t t := ⟨id, id⟩

theorem TableKept.trans {a b c : Table} (h : TableKept a b) (k : TableKept b c) : TableKept a c :=
  ⟨k.clear ∘ h.clear, k.history ∘ h.history⟩

section Tables
variable (t : Table)

/-- The clear reads its position and the marks of the set being cleared. -/
theorem Table.ClearOk.congr {t u : Table} (h : t.ClearOk) (hpos : u.flush.pos = t.flush.pos)
    (hmarks : ∀ i, tget (t.marks t.active.other) i false = false →
      tget (u.marks u.active.other) i false = false) : u.ClearOk := by
  obtain ⟨hlt, hclear⟩ := h
  unfold Table.ClearOk
  rw [hpos]
  exact ⟨hlt, fun i hi => hmarks i (hclear i hi)⟩

theorem Table.clearOk_of_pos (h : t.flush.pos = 0) : t.ClearOk := by
  unfold Table.ClearOk
  rw [h]
  exact ⟨by decide, fun i hi => absurd hi (Nat.not_lt_zero _)⟩

theorem Table.remember_kept (i : Nat) (h : Hit) : TableKept t (t.remember i h) :=
  ⟨id, fun _ => t.remember_length i h⟩

theorem tget_tset_false {n : Nat} {v : Vector Bool n} {j : Nat} (h : tget v j false = false) (i : Nat) :
    tget (tset v i false) j false = false := by
  by_cases hij : i = j
  · subst hij
    by_cases hlt : i < n
    · exact tget_tset_self v hlt false false
    · simp [tget, Nat.le_of_not_lt hlt]
  · rw [tget_tset_ne v hij]
    exact h

/-- Clearing a mark sets none. -/
theorem Table.mark_false (set set' : TableSet) (i : Nat) {j : Nat}
    (h : tget (t.marks set') j false = false) :
    tget ((t.mark set i false).marks set') j false = false := by
  cases set <;> cases set'
  · exact tget_tset_false h i
  · exact h
  · exact h
  · exact tget_tset_false h i

/-- A mark in the active set is no mark of the set being cleared. -/
theorem Table.mark_active_kept (i : Nat) (b : Bool) : TableKept t (t.mark t.active i b) where
  clear h := h.congr (by rw [Table.mark_flush]) fun j hj => by
    rw [Table.mark_active, Table.mark_marks_other]
    exact hj
  history h := by
    rw [Table.mark_history]
    exact h

theorem Table.setSlots_kept (v : Vector Slot 12) : TableKept t { t with slots := v } where
  clear h := h.congr rfl fun j hj => by
    have hmarks : Table.marks { t with slots := v } t.active.other = t.marks t.active.other := by
      cases t.active <;> rfl
    rw [hmarks]
    exact hj
  history := id

theorem Table.store_kept (i : Nat) (c : Fin 4) (k : Pair) : TableKept t (t.store i c k) :=
  (t.setSlots_kept _).trans <| Table.mark_active_kept { t with slots := tset t.slots i (Slot.sound c k) } i true

theorem Table.flushNow_kept (now : Stamp) : TableKept t (t.flushNow now) where
  clear h := by
    unfold Table.flushNow
    split
    · exact Table.clearOk_of_pos _ rfl
    next hf => exact h.congr (by rw [hf]; rfl) fun _ => id
    · exact h
  history h := by
    unfold Table.flushNow
    split <;> exact h

theorem Table.dropBaseline_kept : TableKept t t.dropBaseline := ⟨id, id⟩

theorem Table.loadEntries_kept (i : Nat) (ks : Vector Pair 4) : TableKept t (t.loadEntries i ks) where
  clear h := h.congr (by simp [Table.loadEntries]) fun j hj => by
    unfold Table.loadEntries
    rw [Table.mark_active, Table.mark_active]
    exact Table.mark_false _ _ _ _ (Table.mark_false _ _ _ _ hj)
  history h := by
    unfold Table.loadEntries
    rw [Table.mark_history, Table.mark_history]
    exact h

/-- R78: the mark at the clear position is cleared and the position moves on; after the last slot nothing is behind it. -/
theorem Table.clearStep_kept (now : Stamp) : TableKept t (t.clearStep now) where
  clear h := by
    unfold Table.clearStep
    split
    next => exact h
    next pos timer p hf =>
      dsimp only
      split
      next hpos =>
        obtain ⟨-, hclear⟩ := h
        rw [hf] at hclear
        refine ⟨Nat.succ_lt_succ hpos, fun i hi => ?_⟩
        show tget ((t.mark t.active.other pos false).marks (t.mark t.active.other pos false).active.other)
          i.val false = false
        rw [Table.mark_active]
        obtain hlt | heq := Nat.lt_succ_iff_lt_or_eq.1 hi
        · exact Table.mark_false _ _ _ _ (hclear i hlt)
        · rw [heq]
          exact Table.mark_marks_self _ _ (heq ▸ i.isLt) _
      next =>
        split
        · exact Table.clearOk_of_pos _ rfl
        · exact Table.clearOk_of_pos _ rfl
  history h := by
    unfold Table.clearStep
    split
    · exact h
    · dsimp only
      split
      · rw [Table.mark_history]
        exact h
      · split
        · exact (Table.mark_history _ _ _ _).symm ▸ h
        · rw [Table.mark_history]
          exact h

theorem FlushState.pos_of_quiet {f : FlushState} (h : f.isClearing = false) : f.pos = 0 := by
  cases f
  · rfl
  · exact nomatch h

/-- R86: no Deposit marks a slot of the set being cleared. -/
theorem Table.deposit_kept (i : Nat) (slot : Slot) {choice : ValidChoice}
    (hc : choice = .standby → t.flush.isClearing = false) : TableKept t (t.deposit i slot choice) := by
  cases choice with
  | none => exact (t.setSlots_kept _).trans <| Table.mark_active_kept { t with slots := tset t.slots i slot } i false
  | active => exact (t.setSlots_kept _).trans <| Table.mark_active_kept { t with slots := tset t.slots i slot } i true
  | standby =>
    refine ⟨fun _ => Table.clearOk_of_pos _ ?_, fun h => ?_⟩
    · show ((Table.mark { t with slots := tset t.slots i slot } _ i true).flush).pos = 0
      rw [Table.mark_flush]
      exact FlushState.pos_of_quiet (hc rfl)
    · show (Table.mark { t with slots := tset t.slots i slot } _ i true).history.length ≤ 6
      rw [Table.mark_history]
      exact h

end Tables

/-! ## Lookups and learned coefficients -/

section Lookups
variable (s : State)

theorem State.lookup_kept (i : Nat) (c : Fin 4) : TableKept s.table (s.lookup i c).1.table := by
  have hfill (h : Hit) (k : Pair) : TableKept s.table ((s.table.remember i h).store i c k) :=
    (s.table.remember_kept i h).trans (Table.store_kept _ i c k)
  unfold State.lookup
  split
  · exact s.table.remember_kept i _
  · exact s.table.remember_kept i _
  · exact s.table.remember_kept i _
  · unfold State.integrityError
    dsimp only
    split
    · exact hfill _ _
    · exact hfill _ _
    · exact s.table.remember_kept i _
  · exact hfill _ _

theorem State.lookups_kept (c : Fin 4) (is : List Nat) : TableKept s.table (s.lookups c is).1.table := by
  induction is generalizing s with
  | nil => exact .refl _
  | cons i rest ih =>
    have hone := s.lookup_kept i c
    rw [State.lookups]
    split
    next s1 heq =>
      rw [heq] at hone
      exact hone
    next s1 k heq =>
      rw [heq] at hone
      have hall := hone.trans (ih s1)
      split <;> (rename_i heq2; rw [heq2] at hall; exact hall)

end Lookups

/-! ## The trace queue -/

/-- The trace queue within its bounds (R181, R182). -/
structure TraceQueue.Small (t : TraceQueue) : Prop where
  queue : t.queue.length ≤ traceRoom
  gap : t.gap ≤ 255
  low : t.n ≤ 15
  high : t.m ≤ 15

theorem TraceQueue.Small.offer {t : TraceQueue} (h : t.Small) (r : TraceRecord) : (t.offer r).Small := by
  unfold TraceQueue.offer
  split
  next hroom =>
    simp only [Bool.and_eq_true, decide_eq_true_eq] at hroom
    refine ⟨?_, Nat.zero_le _, h.low, h.high⟩
    rw [List.length_append]
    exact hroom.2
  next => exact ⟨h.queue, countUp_le _ _, h.low, h.high⟩

theorem TraceQueue.Small.drop {t : TraceQueue} (h : t.Small) (n : Nat) :
    { t with queue := t.queue.drop n }.Small :=
  ⟨Nat.le_trans (List.length_drop ▸ Nat.sub_le _ _) h.queue, h.gap, h.low, h.high⟩

theorem TraceQueue.Small.takeSettings {t : TraceQueue} (h : t.Small) {b : List Octet}
    (hb : traceSettingsInRange b = true) : (t.takeSettings b).Small := by
  simp only [traceSettingsInRange, Bool.and_eq_true, decide_eq_true_eq] at hb
  exact ⟨h.queue, h.gap, hb.1.2, hb.2⟩

end Sys2Proof.Machine
end

section
/-! What a step can do to a session: the moves of the Spin Controller, the Weigh Unit, the estimator and the Chamber
Controller, each with the guard under which it is made, and every effect as a chain of them. -/

namespace Sys2Proof.Machine

/-! ## Moves of the water -/

/-- What the Chamber Controller does by itself (R145 to R153). -/
inductive WaterMove (s : State) : State → Prop
  | records (t : ChamberCtl) : t.queue = s.cham.queue → t.flight = s.cham.flight →
      t.supplyTimer = s.cham.supplyTimer → t.leak ≤ max 255 s.cham.leak →
      (∀ c, t.content c ≤ max capacity (s.cham.content c)) → WaterMove s (s.setCham t)
  | meter (f : Flight) : s.cham.flight = some f →
      WaterMove s (s.setCham (s.cham.meter s.time s.spin.par f))
  | endAll (r : EndReason) : WaterMove s (s.endAll r)
  | endAndGoOn (r : EndReason) : WaterMove s (s.endAndGoOn r)
  | take (o : Order) : o.origin = .service → s.serv.mode = true → WaterMove s (s.takeOrder o)
  | unqueue (o : Order) (c : Fin 4) : WaterMove s
      ((s.setCham { s.cham with queue := s.cham.queue.filter (fun q => q.chamber ≠ c) }).endUnstarted
        o .stopped [])

theorem WaterMove.frame {s t : State} (h : WaterMove s t) : WaterFrame s t := by
  cases h with
  | records => exact .setCham s _
  | meter => exact .setCham s _
  | endAll r => exact s.endAll_frame r
  | endAndGoOn r => exact s.endAndGoOn_frame r
  | take o => exact s.takeOrder_frame o
  | unqueue => exact (WaterFrame.setCham s _).trans (State.endUnstarted_frame _ _ _ _)

/-! ## Moves of a session -/

/-- What a session consists of is the same, and the counts, marks and records beside it keep their bounds. -/
structure SameSession (s t : State) : Prop where
  spin : t.spin = s.spin
  est : t.est = s.est
  weigh : t.weigh = s.weigh
  cham : t.cham = s.cham
  mode : t.serv.mode = s.serv.mode
  run : s.samp.invalidRun ≤ 255 → t.samp.invalidRun ≤ 255
  table : TableKept s.table t.table
  trace : s.trace.Small → t.trace.Small

/-- R105: the latest estimate permits a climb from step i up to step d. -/
def State.Permitted (s : State) (i d : Nat) : Prop :=
  ∃ e, s.est.latest = some e ∧ e.step = i ∧ mag e.avg ≤ s.spin.limitOf i
    ∧ e.predictions.map Prediction.step = (List.range (d - i)).map (fun x => i + 1 + x)
    ∧ s.spin.permit e.predictions = true

/-- The step above which a session does not run on: the destination of its ramp, or its dwell step. -/
def Spin.height (p : Spin) : Nat := if p.state = .ramping then p.dest.getD 0 else p.dwell.getD 0

/-- The states from which a descent starts (R118). -/
def SpinState.descends : SpinState → Bool
  | .ramping | .measuring | .balancing => true
  | .weighing | .settling | .retreating | .winddown | .aborting | .idle => false

inductive Move (s : State) : State → Prop
  | same {t : State} : SameSession s t → Move s t
  | weighed (w : Weigh) : (w.phase = .off ↔ s.weigh.phase = .off) →
      w.limit.isSome = s.weigh.limit.isSome → Move s (s.setWeigh w)
  | endWeighing (e : Weigh × WeighedReport) : s.weigh.phase ≠ .off → e.1.phase = .off →
      e.1.limit = none → Move s (s.endWeighing e)
  | water {t : State} : WaterMove s t → Move s t
  | estimate (e : Estimator) : s.spin.state = .measuring →
      (e.preFill.isSome = true → s.est.preFill.isSome = true) → e.m ≤ max 255 s.est.m →
      Move s (s.setEst e)
  | counted (ramp settle attempts retreats plans : Nat) :
      (attempts = s.spin.attempts
        ∨ attempts = s.spin.attempts + 1 ∧ s.spin.attempts < s.spin.par.maxAttempts) →
      Move s (s.setSpin { s.spin with
        rampCount := ramp, settle := settle, attempts := attempts, retreats := retreats
        plans := plans })
  | advance (i d : Nat) : s.spin.state = .measuring → s.spin.dwell.getD 0 = i →
      i < s.spin.goal.getD 0 → d = s.spin.nextDwell i (s.spin.goal.getD 0) → s.Permitted i d →
      Move s (s.startRamping d (s.rampDir d) .advance)
  | retreat (reason : StateReason) : s.spin.state.descends = true → 0 < s.spin.height →
      Move s (s.startRetreating (s.spin.dwellBelow s.spin.height) reason)
  | capRetreat : s.spin.state = .measuring → 0 < s.spin.dwell.getD 0 →
      Move s ((s.lowerCeiling (s.spin.dwellBelow (s.spin.dwell.getD 0)) .retreats).startRetreating
        (s.spin.dwellBelow (s.spin.dwell.getD 0)) .cap)
  | shortfall : s.spin.rampTimer.isSome = true → s.spin.dir = some .up → 0 < s.spin.dest.getD 0 →
      Move s (s.shortfall (s.spin.dest.getD 0))
  | arrive : s.spin.state.hasRamp = true → Move s (s.arrive (s.spin.dest.getD 0))
  | settled : s.spin.state = .settling → Move s (s.enter .measuring .settled)
  | resettle (reason : StateReason) : s.spin.state = .balancing → s.cham.flight = none →
      Move s ((s.setSpin { s.spin with settle := 0 }).enter .settling reason)
  | balance (i : Nat) (a k : Pair) (orders : List Order) : s.spin.state = .measuring →
      (∀ o ∈ orders, o.origin = .planner) → Move s (s.enterBalancing i a k orders)
  | cap : s.spin.state = .measuring → Move s (s.lowerCeiling (s.spin.dwell.getD 0) .cap)
  | winddown (c : Cause) : s.spin.state.active = true → c.closesByWinddown = true →
      Move s (s.enterWinddown c)
  | abort (c : Cause) : (s.spin.state.active || s.spin.state == .winddown) = true →
      c.closesByWinddown = false → Move s (s.enterAborting c)
  | endSession : s.spin.state.isClosing = true → Move s s.endSession
  | target (t : Nat) : s.spin.badTarget t = false → s.spin.state.takesTarget = true →
      Move s ((s.setSpin { s.spin with target := some t }).applyTarget t)
  | start (t seconds : Nat) (continuation : Bool) : s.serv.mode = false →
      s.spin.badStart t = false → s.spin.state = .idle → s.profileComplete = true →
      Move s ((s.prepareSession t seconds continuation).enter .weighing .start)
  | ladder (b : List Octet) : ladderInRange b = true →
      RequestKind.loadLadder.lengthOk b = true →
      ladderConsistent (bodyLadder b) = true → s.spin.state = .idle →
      Move s (s.setSpin (s.spin.takeLadder (bodyLadder b)))
  | params (p : Params) : p.inRange = true → p.consistent = true → s.spin.state = .idle →
      Move s (s.setSpin (s.spin.takeParams p))
  | restart : s.spin.state = .idle → Move s s.restartAll
  | powerOn (lsel : Bool) : Move s (s.powerOnReset lsel)
  | serviceEnter : s.spin.state = .idle → Move s (s.setServ { s.serv with mode := true })
  | serviceLeave : Move s s.leaveService

/-- A chain of moves. -/
inductive Moves : State → State → Prop
  | refl (s : State) : Moves s s
  | tail {s t u : State} : Moves s t → Move t u → Moves s u

theorem Moves.single {s t : State} (h : Move s t) : Moves s t := .tail (.refl s) h

theorem Moves.trans {s t u : State} (h : Moves s t) (k : Moves t u) : Moves s u := by
  induction k with
  | refl => exact h
  | tail _ hlast ih => exact ih.tail hlast

theorem Moves.keeps {P : State → Prop} (hmove : ∀ {s t}, Move s t → P s → P t) {s t : State}
    (h : Moves s t) (hs : P s) : P t := by
  induction h with
  | refl => exact hs
  | tail _ hlast ih => exact hmove hlast ih

theorem Moves.same {s t : State} (h : SameSession s t) : Moves s t := .single (.same h)

theorem Moves.water {s t : State} (h : WaterMove s t) : Moves s t := .single (.water h)

theorem Moves.setRot (s : State) (v : Rotation) : Moves s (s.setRot v) :=
  .same ⟨rfl, rfl, rfl, rfl, rfl, id, .refl _, id⟩

theorem Moves.setSamp (s : State) (v : Sampler) (h : s.samp.invalidRun ≤ 255 → v.invalidRun ≤ 255 := by exact id) :
    Moves s (s.setSamp v) :=
  .same ⟨rfl, rfl, rfl, rfl, rfl, h, .refl _, id⟩

theorem Moves.setTable (s : State) {v : Table} (h : TableKept s.table v) : Moves s (s.setTable v) :=
  .same ⟨rfl, rfl, rfl, rfl, rfl, id, h, id⟩

theorem Moves.setTrace (s : State) {v : TraceQueue} (h : s.trace.Small → v.Small) :
    Moves s (s.setTrace v) :=
  .same ⟨rfl, rfl, rfl, rfl, rfl, id, .refl _, h⟩

theorem Moves.setPins (s : State) (v : Pins) : Moves s (s.setPins v) :=
  .same ⟨rfl, rfl, rfl, rfl, rfl, id, .refl _, id⟩

theorem Moves.report (s : State) (r : Report) : Moves s (giveReport r s) :=
  .same ⟨rfl, rfl, rfl, rfl, rfl, id, .refl _, id⟩

theorem Moves.ofLookup {s t : State} (h : LookupFrame s t) (hk : TableKept s.table t.table) :
    Moves s t := by
  obtain ⟨⟨tb, l, rfl⟩, _⟩ := h
  exact .same ⟨rfl, rfl, rfl, rfl, rfl, id, hk, id⟩

section Ops
variable (s : State)

/-! ## Torque samples and rotation -/

theorem Moves.addAccel (t : Nat) : Moves s (s.setWeigh (s.weigh.addAccel t)) :=
  .single (.weighed _ Iff.rfl rfl)

theorem Moves.addHold (t : Nat) : Moves s (s.setWeigh (s.weigh.addHold t)) :=
  .single (.weighed _ Iff.rfl rfl)

theorem State.torqueAssigned_moves (q : Option Nat) : Moves s (s.torqueAssigned q) := by
  unfold State.torqueAssigned
  dsimp only
  split
  · split
    · exact (Moves.setSamp s _).trans (.addHold _ _)
    · exact .setSamp s _
  · exact .setSamp s _

theorem State.joinPending_moves : Moves s s.joinPending := by
  unfold State.joinPending
  split
  · exact .refl s
  · split
    · exact ((Moves.setRot s _).trans (.setSamp _ _)).trans (State.torqueAssigned_moves _ _)
    · exact (Moves.setRot s _).trans (.setSamp _ _)

theorem State.openRevolution_moves (l : Look) : Moves s (s.openRevolution l) := by
  unfold State.openRevolution
  split
  · exact (Moves.setRot s _).trans (.setSamp _ _)
  · exact .setRot s _

theorem State.traceRevolution_moves (r : RevRecord) : Moves s (s.traceRevolution r) := by
  unfold State.traceRevolution
  split
  · exact .refl s
  · exact .setTrace s fun h => h.offer _

theorem State.conversionDone_moves (dest : TorqueDest) (t : Nat) :
    Moves s (s.conversionDone dest t) := by
  unfold State.conversionDone
  dsimp only
  split
  · exact (Moves.setSamp s _).trans (.addAccel _ _)
  · exact (Moves.setSamp s _).trans (.addHold _ _)
  · exact (Moves.setSamp s _).trans (.setRot _ _)
  · exact .setSamp s _

theorem Weigh.endTest_phase (p : Params) (now : Stamp) (v : Nat) {w : Weigh} (h : w.phase ≠ .off) :
    (w.endTest p now v).phase ≠ .off := by
  unfold Weigh.endTest
  split
  · exact fun hoff => nomatch hoff
  · exact h

theorem Weigh.endTest_limit (p : Params) (now : Stamp) (v : Nat) (w : Weigh) :
    (w.endTest p now v).limit = w.limit := by
  unfold Weigh.endTest
  split <;> rfl

/-- R48, R49: a slot edge neither begins nor ends a weighing. -/
theorem Weigh.slotEdge_phase (p : Params) (now : Stamp) (v : Nat) (w : Weigh) :
    (w.slotEdge p now v).phase = .off ↔ w.phase = .off := by
  unfold Weigh.slotEdge
  split
  next hbelow =>
    split
    · exact iff_of_false (Weigh.endTest_phase p now v (by simp)) (by simp [hbelow])
    · exact Iff.rfl
  next haccel => exact iff_of_false (Weigh.endTest_phase p now v (by simp [haccel])) (by simp [haccel])
  all_goals exact Iff.rfl

theorem Weigh.slotEdge_limit (p : Params) (now : Stamp) (v : Nat) (w : Weigh) :
    (w.slotEdge p now v).limit = w.limit := by
  unfold Weigh.slotEdge
  split
  · split
    · rw [Weigh.endTest_limit]
    · rfl
  · rw [Weigh.endTest_limit]
  all_goals rfl

theorem State.weighSlotEdge_moves : Moves s s.weighSlotEdge :=
  .single (.weighed _ (Weigh.slotEdge_phase _ _ _ _) (by rw [Weigh.slotEdge_limit]))

/-! ## Water and speed -/

theorem State.fillEnd_moves (h : s.cham.flight = none) : Moves s s.fillEnd := by
  unfold State.fillEnd
  split
  next hb => exact .single (.resettle _ hb h)
  next => exact .refl s

theorem State.fillEndIfDone_moves (planner : Bool) : Moves s (s.fillEndIfDone planner) := by
  unfold State.fillEndIfDone
  split
  next hdone =>
    simp only [Bool.and_eq_true, Option.isNone_iff_eq_none] at hdone
    exact s.fillEnd_moves hdone.2
  next => exact .refl s

theorem State.finishOrder_moves (r : EndReason) : Moves s (s.finishOrder r) :=
  (Moves.water (.endAndGoOn r)).trans (State.fillEndIfDone_moves _ _)

theorem State.speedEnd_moves : Moves s s.speedEnd :=
  (Moves.water (.endAll _)).trans (State.fillEndIfDone_moves _ _)

theorem State.speedChanged_moves (old : Nat) : Moves s (s.speedChanged old) := by
  unfold State.speedChanged
  split
  · split
    · exact s.speedEnd_moves
    · exact .refl s
  · exact .refl s

theorem State.leakPulse_moves : Moves s s.leakPulse := by
  have hleak : countUp 255 s.cham.leak ≤ max 255 s.cham.leak :=
    Nat.le_trans (countUp_le _ _) (Nat.le_max_left _ _)
  unfold State.leakPulse
  dsimp only
  split
  · have hfault := WaterMove.records (s := s)
      { s.cham with
        leak := countUp 255 s.cham.leak, balancer := false
        pendingFault := some (.leak (countUp 255 s.cham.leak)) }
      rfl rfl rfl hleak fun _ => Nat.le_max_right _ _
    exact (Moves.water hfault).trans (.report _ _)
  · exact .water (.records _ rfl rfl rfl hleak fun _ => Nat.le_max_right _ _)

theorem State.meterPulse_moves {f : Flight} (h : s.cham.flight = some f) :
    Moves s (s.meterPulse f) := by
  unfold State.meterPulse
  dsimp only
  split
  · exact (Moves.water (.meter f h)).trans (State.finishOrder_moves _ _)
  · exact .water (.meter f h)

theorem State.flowPulse_moves : Moves s s.flowPulse := by
  unfold State.flowPulse
  split
  next f hf => exact s.meterPulse_moves hf
  next => exact s.leakPulse_moves

theorem ChamberCtl.bled_le (t : ChamberCtl) (g : Nat) (c : Fin 4) : t.bled g c ≤ t.content c := by
  unfold ChamberCtl.bled
  split
  · exact Nat.le_refl _
  · exact Nat.sub_le _ _

theorem ChamberCtl.content_bleedAll (t : ChamberCtl) (g : Nat) (c : Fin 4) :
    (t.bleedAll g).content c = t.bled g c := by
  match c with
  | 0 => simp [ChamberCtl.bleedAll, ChamberCtl.content_setContent_ne]
  | 1 => simp [ChamberCtl.bleedAll, ChamberCtl.content_setContent_ne]
  | 2 => simp [ChamberCtl.bleedAll, ChamberCtl.content_setContent_ne]
  | 3 => simp [ChamberCtl.bleedAll]

theorem State.bleed_moves : Moves s s.bleed := by
  unfold State.bleed
  dsimp only
  split
  · split
    · refine .water (.records _ rfl rfl rfl (Nat.le_max_right _ _) fun c => ?_)
      rw [ChamberCtl.content_bleedAll]
      exact Nat.le_trans (ChamberCtl.bled_le _ _ c) (Nat.le_max_right _ _)
    · exact .water (.records _ rfl rfl rfl (Nat.le_max_right _ _) fun _ => Nat.le_max_right _ _)
  · exact .water (.records _ rfl rfl rfl (Nat.le_max_right _ _) fun _ => Nat.le_max_right _ _)

theorem State.supplyTimeout_moves : Moves s s.supplyTimeout := by
  unfold State.supplyTimeout
  split
  next f _ =>
    have hnoted := WaterMove.records (s := s.endAll .supply) ((s.endAll .supply).cham.noteSupply f)
      rfl rfl rfl (Nat.le_max_right _ _) fun _ => Nat.le_max_right _ _
    exact (((Moves.water (.endAll _)).trans (.water hnoted)).trans (.report _ _)).trans
      (State.fillEndIfDone_moves _ _)
  next => exact .refl s

theorem State.depositContent_moves (c : Fin 4) (g : Nat) : Moves s (s.depositContent c g) := by
  have hset : WaterMove s (s.setCham (s.cham.setContent c (min g capacity))) := by
    refine .records _ rfl rfl rfl (Nat.le_max_right _ _) fun d => ?_
    by_cases h : c = d
    · subst h
      rw [ChamberCtl.content_setContent_self]
      exact Nat.le_trans (Nat.min_le_right _ _) (Nat.le_max_left _ _)
    · rw [ChamberCtl.content_setContent_ne _ h]
      exact Nat.le_max_right _ _
  unfold State.depositContent
  dsimp only
  split
  · exact (Moves.water hset).trans (State.finishOrder_moves _ _)
  · exact .water hset

theorem State.stopChamber_moves (c : Fin 4) : Moves s (s.stopChamber c).1 := by
  unfold State.stopChamber
  split
  · exact .water (.endAndGoOn _)
  · split
    · exact .water (.unqueue _ c)
    · exact .refl s

/-! ## Closing a session -/

theorem State.abortOn_moves {c : Cause} (hc : c.closesByWinddown = false) :
    Moves s (s.abortOn c) := by
  unfold State.abortOn
  split
  next h => exact .single (.abort c h hc)
  next => exact .refl s

theorem State.closeActive_moves {c : Cause} (hc : c.closesByWinddown = true) :
    Moves s (s.closeActive c) := by
  unfold State.closeActive
  split
  next h => exact .single (.winddown c h hc)
  next => exact .refl s

theorem State.strikeEvent_moves (x y : Int) (m : Nat) : Moves s (s.strikeEvent x y m) := by
  unfold State.strikeEvent
  split
  · split
    · exact .refl s
    · exact (Moves.setSamp s _).trans (.report _ _)
  · exact s.abortOn_moves rfl

theorem State.sensorEvent_moves : Moves s s.sensorEvent := by
  unfold State.sensorEvent
  split
  · exact .report s _
  · exact s.abortOn_moves rfl

theorem State.indexLossEvent_moves : Moves s s.indexLossEvent := by
  unfold State.indexLossEvent
  split
  · exact .report s _
  · exact s.abortOn_moves rfl

theorem State.stoppedEvent_moves : Moves s s.stoppedEvent := by
  have habort (h : s.spin.state.active = true) : Moves s (s.enterAborting .drive) :=
    .single (.abort .drive (by rw [h]; rfl) rfl)
  unfold State.stoppedEvent
  split
  next h => exact habort (by rw [h]; rfl)
  next h => exact habort (by rw [h]; rfl)
  next h => exact habort (by rw [h]; rfl)
  next h => exact habort (by rw [h]; rfl)
  next h => exact habort (by rw [h]; rfl)
  next => exact .refl s
  next h => exact .single (.endSession (by rw [h]; rfl))
  next h => exact .single (.endSession (by rw [h]; rfl))
  next => exact .refl s

theorem State.countInvalid_moves : Moves s s.countInvalid := by
  unfold State.countInvalid
  dsimp only
  split
  · exact (Moves.setSamp s _ fun _ => countUp_le _ _).trans (State.sensorEvent_moves _)
  · exact .setSamp s _ fun _ => countUp_le _ _

theorem State.readComplete_moves (x y : BitVec 12) : Moves s (s.readComplete x y) := by
  unfold State.readComplete State.readDone
  split
  · dsimp only
    split
    · split
      · exact (((Moves.setSamp s _).trans (.setSamp _ _ fun _ => Nat.zero_le _)).trans (.setRot _ _)).trans
          (State.strikeEvent_moves _ _ _ _)
      · exact ((Moves.setSamp s _).trans (.setSamp _ _ fun _ => Nat.zero_le _)).trans (.setRot _ _)
    · exact ((Moves.setSamp s _).trans (.setRot _ _)).trans (State.countInvalid_moves _)
    · exact .setSamp s _
  · exact .refl s

theorem State.conversionComplete_moves (code : BitVec 10) : Moves s (s.conversionComplete code) := by
  unfold State.conversionComplete
  split
  · exact s.conversionDone_moves _ _
  · exact .refl s

theorem State.discardRevolution_moves : Moves s s.discardRevolution :=
  (Moves.setRot s _).trans (.setSamp _ _)

theorem State.countSlotEdge_moves : Moves s s.countSlotEdge := by
  unfold State.countSlotEdge State.indexLoss
  dsimp only
  split
  · exact (((Moves.setRot s _).trans (State.discardRevolution_moves _)).trans (.setRot _ _)).trans
      (State.indexLossEvent_moves _)
  · exact .setRot s _

theorem State.placeSlotEdge_moves (l : Look) (climb : Bool) : Moves s (s.placeSlotEdge l climb) := by
  unfold State.placeSlotEdge
  split
  · exact (Moves.setRot s _).trans (.setSamp _ _)
  · exact (s.joinPending_moves.trans (.setRot _ _)).trans (.setSamp _ _)

theorem State.slotEdge_moves : Moves s s.slotEdge := by
  have htimed : Moves s s.timeSlotEdge := (Moves.setRot s _).trans (State.speedChanged_moves _ _)
  have hplaced (l : Look) (climb : Bool) :
      Moves s ((s.timeSlotEdge.placeSlotEdge l climb).weighSlotEdge) :=
    (htimed.trans (State.placeSlotEdge_moves _ l climb)).trans (State.weighSlotEdge_moves _)
  unfold State.slotEdge
  dsimp only
  refine Moves.trans ?_ (State.countSlotEdge_moves _)
  split
  · exact (hplaced _ _).trans (State.countInvalid_moves _)
  · exact hplaced _ _

theorem State.standstill_moves : Moves s s.standstill := by
  have hstopped : Moves s s.stopBasket :=
    (s.discardRevolution_moves.trans (.setRot _ _)).trans (.setSamp _ _ fun _ => Nat.zero_le _)
  unfold State.standstill
  dsimp only
  split
  · exact (hstopped.trans (State.speedChanged_moves _ _)).trans (State.stoppedEvent_moves _)
  · exact (hstopped.trans (State.stoppedEvent_moves _)).trans (State.speedChanged_moves _ _)

theorem State.rampTimeout_moves (h : s.spin.rampTimer.isSome = true) : Moves s s.rampTimeout := by
  unfold State.rampTimeout
  dsimp only
  split
  next hup => exact .single (.shortfall h hup.1 hup.2)
  next => exact s.abortOn_moves rfl

theorem State.weighLimit_moves : Moves s s.weighLimit := by
  unfold State.weighLimit
  split
  next => exact .refl s
  next h => exact .single (.endWeighing _ h rfl rfl)

end Ops

end Sys2Proof.Machine
end

section
/-! The decision event and the records as chains of moves: which guards a choice of the tests brings with it (R101 to
R104), the orders of a plan (R157, R158), and every effect of a step as a chain. -/

namespace Sys2Proof.Machine

/-! ## The orders of a plan -/

/-- R158, step 4: an order put into its place adds itself and keeps the others. -/
theorem insertOrder_perm (o : Order) (os : List Order) : (insertOrder o os).Perm (o :: os) := by
  induction os with
  | nil => exact .refl _
  | cons q rest ih =>
    rw [insertOrder]
    split
    · exact .refl _
    · exact (ih.cons q).trans (.swap o q rest)

theorem foldl_insertOrder_perm (os acc : List Order) :
    (os.foldl (fun acc o => insertOrder o acc) acc).Perm (os ++ acc) := by
  induction os generalizing acc with
  | nil => exact .refl _
  | cons o rest ih =>
    refine (ih (insertOrder o acc)).trans (((insertOrder_perm o acc).append_left rest).trans ?_)
    exact List.perm_middle

theorem sortOrders_perm (os : List Order) : (sortOrders os).Perm os := by
  simpa [sortOrders] using foldl_insertOrder_perm os []

/-- R157: a planner's order is of origin PLANNER and not empty. -/
theorem State.mem_plan {s : State} {u : Pair} {o : Order} (h : o ∈ s.plan u) :
    o.origin = .planner ∧ 1 ≤ o.amount := by
  rw [State.plan, (sortOrders_perm _).mem_iff, List.mem_filterMap] at h
  obtain ⟨c, _, h⟩ := h
  dsimp only at h
  split at h
  · cases h
  next hamount =>
    cases h
    exact ⟨rfl, Nat.one_le_iff_ne_zero.2 fun hzero => hamount (.inr hzero)⟩

theorem State.planFor_eq (s : State) (i : Nat) (u : Pair) :
    s.planFor i u = [] ∨ s.planFor i u = s.plan u := by
  unfold State.planFor
  split
  · exact .inr rfl
  · exact .inl rfl

theorem State.planFor_planner {s : State} {i : Nat} {u : Pair} :
    ∀ o ∈ s.planFor i u, o.origin = .planner := by
  intro o ho
  obtain h | h := s.planFor_eq i u
  · rw [h] at ho
    cases ho
  · rw [h] at ho
    exact (State.mem_plan ho).1

/-! ## The choice of the tests -/

/-- What each outcome presupposes (R102 to R104). -/
def State.Allowed (s : State) (i : Nat) (d : Option Nat) (magA : Nat) (qs : List Prediction) :
    Choice → Prop
  | .advance j => d = some j ∧ magA ≤ s.spin.limitOf i ∧ s.spin.permit qs = true
  | .balance orders => ∀ o ∈ orders, o.origin = .planner
  | .retreat => 0 < i
  | .capRetreats => 0 < i
  | .redistribute => s.spin.attempts < s.spin.par.maxAttempts
  | .capHere => True
  | .hold => True
  | .unbalanced => True

section Choice
variable (s : State) (i magA : Nat) (u : Pair) (qs : List Prediction)

theorem State.excursionChoice_allowed (d : Option Nat) :
    s.Allowed i d magA qs (s.spin.excursionChoice i) := by
  unfold Spin.excursionChoice
  split
  next hi =>
    split
    · exact hi
    · exact hi
  next =>
    split
    next hattempts => exact hattempts
    next => trivial

theorem State.climbChoice_allowed (d size : Nat) :
    s.Allowed i (some d) magA qs (s.climbChoice i d magA size u qs).choice := by
  unfold State.climbChoice
  dsimp only
  split
  · exact s.excursionChoice_allowed i magA qs _
  next hlimit =>
  split
  · dsimp only
    split
    next hattempts => exact hattempts
    next => trivial
  split
  next hpermit => exact ⟨rfl, Nat.not_lt.1 hlimit, hpermit⟩
  split
  · exact State.planFor_planner
  split
  next hattempts => exact hattempts.2
  next => trivial

theorem State.goalChoice_allowed : s.Allowed i none magA qs (s.goalChoice i magA u).choice := by
  unfold State.goalChoice
  dsimp only
  split
  · exact s.excursionChoice_allowed i magA qs _
  split
  · exact State.planFor_planner
  · trivial

end Choice

/-! ## The lookups of a decision -/

/-- R67, R100: the coefficients of a decision belong to the steps looked up, in their order. -/
theorem State.lookups_steps {s u : State} {c : Fin 4} {is : List Nat} {ks : List StepK}
    (h : s.lookups c is = (u, some ks)) : ks.map StepK.step = is := by
  induction is generalizing s u ks with
  | nil =>
    cases h
    rfl
  | cons i rest ih =>
    rw [State.lookups] at h
    split at h
    · cases h
    next s1 k _ =>
      split at h
      · cases h
      next s2 ks' hrest =>
        cases h
        rw [List.map_cons, ih hrest]

theorem predictionsOf_eq (size : Nat) (ks : List StepK) :
    predictionsOf size ks = ks.map (fun q => ⟨q.step, prediction size q.k⟩) := by
  induction ks with
  | nil => rfl
  | cons q rest ih => rw [predictionsOf, ih, List.map_cons]

theorem predictionsOf_steps (size : Nat) (ks : List StepK) :
    (predictionsOf size ks).map Prediction.step = ks.map StepK.step := by
  simp [predictionsOf_eq]

/-- R100: the steps of a climb decision are s and then every step up to d. -/
theorem decisionSteps_some {i d : Nat} (h : i ≤ d) :
    decisionSteps i (some d) = i :: (List.range (d - i)).map (fun x => i + 1 + x) := by
  rw [decisionSteps, show d + 1 - i = d - i + 1 by omega, List.range_succ_eq_map, List.map_cons,
    List.map_map, Nat.zero_add]
  congr 1
  refine List.map_congr_left fun x _ => ?_
  show x + 1 + i = i + 1 + x
  omega

/-- R90: searching upward, the step found is not below the one searched from. -/
theorem Spin.dwellFrom_ge {p : Spin} {i n d : Nat} (h : p.dwellFrom i n = some d) :
    i ≤ d ∧ d < i + n := by
  induction n generalizing i with
  | zero => cases h
  | succ n ih =>
    rw [Spin.dwellFrom] at h
    split at h
    · cases h
      omega
    · have := ih h
      omega

theorem Spin.nextDwell_mem (p : Spin) {i goal : Nat} (h : i < goal) :
    i < p.nextDwell i goal ∧ p.nextDwell i goal ≤ goal := by
  unfold Spin.nextDwell
  cases hd : p.dwellFrom (i + 1) (goal - i) with
  | none => exact ⟨h, Nat.le_refl _⟩
  | some d =>
    have := Spin.dwellFrom_ge hd
    show i < d ∧ d ≤ goal
    omega

/-! ## The outcome and the decision event -/

section Decision
variable (s : State)

theorem State.applyChoice_moves (a k : Pair) (size magA : Nat) (d : Option Nat)
    (qs : List Prediction) (dec : Decided) (hm : s.spin.state = .measuring)
    (hd : ∀ j, d = some j → s.spin.dwell.getD 0 < s.spin.goal.getD 0
      ∧ j = s.spin.nextDwell (s.spin.dwell.getD 0) (s.spin.goal.getD 0))
    (hlatest : ∀ j, d = some j → magA ≤ s.spin.limitOf (s.spin.dwell.getD 0) →
      s.spin.permit qs = true → s.Permitted (s.spin.dwell.getD 0) j)
    (hc : s.Allowed (s.spin.dwell.getD 0) d magA qs dec.choice ∨ dec.choice = .redistribute) :
    Moves s (s.applyChoice (s.spin.dwell.getD 0) a k size dec) := by
  have hactive : s.spin.state.active = true := by rw [hm]; rfl
  have hheight : s.spin.height = s.spin.dwell.getD 0 := if_neg (by simp [hm])
  have hdescends : s.spin.state.descends = true := by rw [hm]; rfl
  have hempty (x : State) (hx : x.spin.state = .measuring) : Moves x (x.setEst x.est.emptied) :=
    .single (.estimate _ hx id (Nat.zero_le _))
  unfold State.applyChoice
  split
  next j hchoice =>
    obtain ⟨hj, hmag, hpermit⟩ : d = some j ∧ magA ≤ s.spin.limitOf (s.spin.dwell.getD 0)
        ∧ s.spin.permit qs = true := by simpa [hchoice, State.Allowed] using hc
    exact .single (.advance _ j hm rfl (hd j hj).1 (hd j hj).2 (hlatest j hj hmag hpermit))
  next orders hchoice =>
    refine .single (.balance _ a k orders hm ?_)
    simpa [hchoice, State.Allowed] using hc
  next => exact hempty s hm
  next => exact (Moves.single (.cap hm)).trans (hempty _ hm)
  next hchoice =>
    have hi : 0 < s.spin.dwell.getD 0 := by simpa [hchoice, State.Allowed] using hc
    rw [← hheight] at hi ⊢
    exact .single (.retreat _ hdescends hi)
  next hchoice =>
    have hi : 0 < s.spin.dwell.getD 0 := by simpa [hchoice, State.Allowed] using hc
    exact .single (.capRetreat hm hi)
  next => exact (Moves.report s _).trans (.single (.winddown _ hactive rfl))
  next => exact .single (.winddown _ hactive rfl)

/-- R105, R106: counting an outcome changes the counters alone. -/
theorem Spin.countOutcome_eq (p : Spin) (c : Choice) :
    p.countOutcome c = { p with
      attempts := (p.countOutcome c).attempts, retreats := (p.countOutcome c).retreats
      plans := (p.countOutcome c).plans } := by
  cases c <;> rfl

theorem Spin.countOutcome_attempts (p : Spin) (c : Choice) :
    (p.countOutcome c).attempts = if c = .redistribute then p.attempts + 1 else p.attempts := by
  cases c <;> rfl

theorem State.countOutcome_moves (c : Choice)
    (hc : c = .redistribute → s.spin.attempts < s.spin.par.maxAttempts) :
    Moves s (s.setSpin (s.spin.countOutcome c)) := by
  rw [Spin.countOutcome_eq]
  refine .single (.counted _ _ _ _ _ ?_)
  rw [Spin.countOutcome_attempts]
  split
  next h => exact .inr ⟨rfl, hc h⟩
  next => exact .inl rfl

/-- The record's part of a state is what a decision reads: counting leaves the rest of it. -/
theorem Spin.countOutcome_same (p : Spin) (c : Choice) :
    (p.countOutcome c).state = p.state ∧ (p.countOutcome c).dwell = p.dwell
      ∧ (p.countOutcome c).goal = p.goal ∧ (p.countOutcome c).ladder = p.ladder := by
  cases c <;> exact ⟨rfl, rfl, rfl, rfl⟩

theorem Spin.limitOf_congr {p q : Spin} (h : p.ladder = q.ladder) : p.limitOf = q.limitOf := by
  funext i
  rw [Spin.limitOf, Spin.limitOf, h]

theorem Spin.speedOf_congr {p q : Spin} (h : p.ladder = q.ladder) : p.speedOf = q.speedOf := by
  funext i
  rw [Spin.speedOf, Spin.speedOf, h]

theorem Spin.isDwell_congr {p q : Spin} (h : p.ladder = q.ladder) : p.isDwell = q.isDwell := by
  funext i
  rw [Spin.isDwell, Spin.isDwell, h]

theorem Spin.dwellFrom_congr {p q : Spin} (h : p.ladder = q.ladder) (i n : Nat) :
    p.dwellFrom i n = q.dwellFrom i n := by
  induction n generalizing i with
  | zero => rfl
  | succ n ih => rw [Spin.dwellFrom, Spin.dwellFrom, ih, Spin.isDwell_congr h]

theorem Spin.dwellBelow_congr {p q : Spin} (h : p.ladder = q.ladder) (i : Nat) :
    p.dwellBelow i = q.dwellBelow i := by
  induction i with
  | zero => rfl
  | succ i ih => rw [Spin.dwellBelow, Spin.dwellBelow, ih, Spin.isDwell_congr h]

theorem Spin.nextDwell_congr {p q : Spin} (h : p.ladder = q.ladder) (i goal : Nat) :
    p.nextDwell i goal = q.nextDwell i goal := by
  rw [Spin.nextDwell, Spin.nextDwell, Spin.dwellFrom_congr h]

theorem Spin.permit_congr {p q : Spin} (h : p.ladder = q.ladder) (qs : List Prediction) :
    p.permit qs = q.permit qs := by
  rw [Spin.permit, Spin.permit, Spin.limitOf_congr h]

/-- R35 to R37: the state with the estimate of a decision as the latest one. -/
def State.estimated (s : State) (i : Nat) (w : ReadyWindow) (learned : Learned) (k : Pair)
    (qs : List Prediction) : State :=
  s.setEst { s.est with
    latest := some ⟨i, w.newest, s.spin.par.windowRevs, w.steady, w.spread, w.avg, k,
      estimateU k w.avg, estimateSize (estimateU k w.avg) w.steady, learned, qs⟩ }

/-- R101: the tests of a climb decision when there is a next dwell step, of a goal decision otherwise. -/
def State.choose (s : State) (i : Nat) (d : Option Nat) (magA size : Nat) (u : Pair)
    (qs : List Prediction) : Decided :=
  match d with
  | some d => s.climbChoice i d magA size u qs
  | none => s.goalChoice i magA u

theorem State.choose_allowed (i : Nat) (d : Option Nat) (magA size : Nat) (u : Pair)
    (qs : List Prediction) : s.Allowed i d magA qs (s.choose i d magA size u qs).choice := by
  cases d with
  | some j => exact s.climbChoice_allowed _ _ _ _ _ _
  | none => exact s.goalChoice_allowed _ _ _ _

/-- R32, R105: the estimate, the choice, its counting, the DECISION report, and what the choice brings. -/
theorem State.decideWith_eq (i goal : Nat) (d : Option Nat) (w : ReadyWindow) (learned : Learned)
    (k : Pair) (above : List StepK) :
    let size := estimateSize (estimateU k w.avg) w.steady
    let qs := predictionsOf size above
    let s1 := s.estimated i w learned k qs
    let dec := s1.choose i d (mag w.avg) size (estimateU k w.avg) qs
    ∃ report, s.decideWith i goal d w learned k above =
      (giveReport report (s1.setSpin (s1.spin.countOutcome dec.choice))).applyChoice i w.avg k size
        dec := by
  cases d <;> exact ⟨_, rfl⟩

theorem State.decideWith_moves (d : Option Nat) (w : ReadyWindow) (learned : Learned) (k : Pair)
    (above : List StepK) (hm : s.spin.state = .measuring)
    (hd : ∀ j, d = some j → s.spin.dwell.getD 0 < s.spin.goal.getD 0
      ∧ j = s.spin.nextDwell (s.spin.dwell.getD 0) (s.spin.goal.getD 0)
      ∧ above.map StepK.step = (List.range (j - s.spin.dwell.getD 0)).map
        (fun x => s.spin.dwell.getD 0 + 1 + x)) :
    Moves s (s.decideWith (s.spin.dwell.getD 0) (s.spin.goal.getD 0) d w learned k above) := by
  obtain ⟨report, heq⟩ := s.decideWith_eq (s.spin.dwell.getD 0) (s.spin.goal.getD 0) d w learned k above
  rw [heq]
  generalize hsize : estimateSize (estimateU k w.avg) w.steady = size
  generalize hqs : predictionsOf size above = qs
  generalize hs1 : s.estimated _ w learned k qs = s1
  have hallowed := s1.choose_allowed (s.spin.dwell.getD 0) d (mag w.avg) size (estimateU k w.avg) qs
  generalize s1.choose _ d (mag w.avg) size _ qs = dec at hallowed ⊢
  have hspin : s1.spin = s.spin := by rw [← hs1]; rfl
  have hlatest : Moves s s1 := by
    rw [← hs1]
    exact .single (.estimate _ hm id (Nat.le_max_right _ _))
  have hcount : Moves s1 (s1.setSpin (s1.spin.countOutcome dec.choice)) :=
    s1.countOutcome_moves _ fun h => by
      rw [h] at hallowed
      exact hallowed
  obtain ⟨hstate, hdwell, hgoal, hladder⟩ := s1.spin.countOutcome_same dec.choice
  refine (hlatest.trans hcount).trans ((Moves.report _ report).trans ?_)
  generalize hs3 : giveReport report (s1.setSpin (s1.spin.countOutcome dec.choice)) = s3
  have hspin3 : s3.spin = s1.spin.countOutcome dec.choice := by rw [← hs3]; rfl
  have hladder3 : s3.spin.ladder = s1.spin.ladder := by rw [hspin3, hladder]
  have hdwell3 : s3.spin.dwell.getD 0 = s.spin.dwell.getD 0 := by rw [hspin3, hdwell, hspin]
  have hgoal3 : s3.spin.goal.getD 0 = s.spin.goal.getD 0 := by rw [hspin3, hgoal, hspin]
  have hest3 : s3.est = s1.est := by rw [← hs3]; rfl
  rw [← hdwell3]
  refine s3.applyChoice_moves _ _ _ (mag w.avg) d qs dec ?_ (fun j hj => ?_)
    (fun j hj hmag hpermit => ?_) ?_
  · rw [hspin3, hstate, hspin, hm]
  · obtain ⟨hlt, hnext, _⟩ := hd j hj
    rw [hdwell3, hgoal3, Spin.nextDwell_congr (hladder3.trans (congrArg Spin.ladder hspin))]
    exact ⟨hlt, hnext⟩
  · refine ⟨_, by rw [hest3, ← hs1]; rfl, hdwell3.symm, hmag, ?_, hpermit⟩
    rw [hdwell3, ← (hd j hj).2.2, ← predictionsOf_steps size, hqs]
  · rw [hdwell3]
    have hlimit := Spin.limitOf_congr hladder3
    have hpermit := Spin.permit_congr hladder3 qs
    cases hchoice : dec.choice with
    | redistribute => exact .inr rfl
    | advance j =>
      rw [hchoice] at hallowed
      obtain ⟨hj, hmag, hperm⟩ := hallowed
      exact .inl ⟨hj, by rwa [hlimit], by rwa [hpermit]⟩
    | _ =>
      rw [hchoice] at hallowed
      exact .inl hallowed

theorem State.takeLearned_moves (c : Fin 4) (o : LearnOutcome) : Moves s (s.takeLearned c o) := by
  unfold State.takeLearned
  split
  · exact .refl s
  · refine Moves.trans ?_ (.report _ _)
    split
    · exact .setTable s (s.table.store_kept _ _ _)
    · exact .refl s

theorem State.takeLearned_spin (c : Fin 4) (o : LearnOutcome) : (s.takeLearned c o).spin = s.spin := by
  unfold State.takeLearned
  split
  · rfl
  · dsimp only
    split <;> rfl

theorem State.learningStep_moves (c : Fin 4) (a : Pair) (hm : s.spin.state = .measuring) :
    Moves s (s.learningStep c a).1 := by
  unfold State.learningStep
  split
  · exact .refl s
  · exact (Moves.single (.estimate { s.est with preFill := none } hm (fun h => by cases h)
      (Nat.le_max_right _ _))).trans
      (State.takeLearned_moves _ _ _)

theorem State.learningStep_spin (c : Fin 4) (a : Pair) : (s.learningStep c a).1.spin = s.spin := by
  unfold State.learningStep
  split
  · rfl
  · exact State.takeLearned_spin _ _ _

theorem State.decisionEvent_moves (w : ReadyWindow) (hm : s.spin.state = .measuring) :
    Moves s (s.decisionEvent w) := by
  unfold State.decisionEvent
  dsimp only
  generalize hc : s.weigh.cls.getD 0 = c
  generalize hd : (if s.spin.dwell.getD 0 < s.spin.goal.getD 0 then
    some (s.spin.nextDwell (s.spin.dwell.getD 0) (s.spin.goal.getD 0)) else none) = d
  have hlearn := s.learningStep_moves c w.avg hm
  have hspin1 := s.learningStep_spin c w.avg
  generalize (s.learningStep c w.avg).2 = learned
  generalize (s.learningStep c w.avg).1 = s1 at hlearn hspin1
  have hlook (s2 : State) (ks : Option (List StepK))
      (h : s1.lookups c (decisionSteps (s.spin.dwell.getD 0) d) = (s2, ks)) :
      Moves s s2 ∧ s2.spin = s.spin := by
    have hframe := State.lookups_frame_of h
    have hkept := s1.lookups_kept c (decisionSteps (s.spin.dwell.getD 0) d)
    rw [h] at hkept
    refine ⟨hlearn.trans (.ofLookup hframe hkept), ?_⟩
    obtain ⟨⟨tb, l, rfl⟩, _⟩ := hframe
    exact hspin1
  split
  next s2 h =>
    obtain ⟨hmoves, hspin⟩ := hlook s2 _ h
    exact hmoves.trans (.single (.abort _ (by rw [hspin, hm]; rfl) rfl))
  next s2 h => exact (hlook s2 _ h).1
  next s2 q above h =>
    obtain ⟨hmoves, hspin⟩ := hlook s2 _ h
    refine hmoves.trans ?_
    rw [← hspin]
    refine s2.decideWith_moves d w learned q.k above (by rw [hspin, hm]) fun j hj => ?_
    rw [hspin]
    rw [hj] at hd
    split at hd
    next hlt =>
      cases hd
      have hsteps := State.lookups_steps h
      rw [hj, decisionSteps_some (Nat.le_of_lt (s.spin.nextDwell_mem hlt).1), List.map_cons,
        List.cons.injEq] at hsteps
      exact ⟨hlt, rfl, hsteps.2⟩
    next => cases hd

/-! ## Records -/

theorem State.measuringRecord_moves (r : RevRecord) (hm : s.spin.state = .measuring) :
    Moves s (s.measuringRecord r) := by
  have hest (x : State) (hx : x.spin.state = .measuring) (n : Nat) (hn : n ≤ max 255 x.est.m)
      (w : List WindowEntry) : Moves x (x.setEst { x.est with window := w, m := n }) :=
    .single (.estimate _ hx id hn)
  have hup : countUp 255 s.est.m ≤ max 255 s.est.m := Nat.le_trans (countUp_le _ _) (Nat.le_max_left _ _)
  have hstep (x : State) (hx : x.spin.state = .measuring) (n : RevNum) : Moves x (x.windowStep n) := by
    unfold State.windowStep
    dsimp only
    split
    · exact .refl x
    split
    · exact x.decisionEvent_moves _ hx
    split
    · exact hest x hx _ (Nat.le_max_right _ _) _
    · exact x.decisionEvent_moves _ hx
  unfold State.measuringRecord
  dsimp only
  split
  · generalize hs2 : State.setEst _ _ = s2
    have hm2 : s2.spin.state = .measuring := by rw [← hs2]; exact hm
    refine Moves.trans ?_ (hstep s2 hm2 r.number)
    rw [← hs2]
    exact hest s hm _ hup _
  · exact hest s hm _ hup _

theorem State.setCounts_moves (ramp settle retreats : Nat) : Moves s (s.setSpin { s.spin with
    rampCount := ramp, settle := settle, retreats := retreats }) :=
  .single (.counted ramp settle _ retreats s.spin.plans (.inl rfl))

theorem State.completionTest_moves (r : RevRecord) (h : s.spin.state.hasRamp = true) :
    Moves s (s.completionTest r) := by
  unfold State.completionTest
  dsimp only
  split
  · have hcount := s.setCounts_moves (s.spin.rampCount + 1) s.spin.settle s.spin.retreats
    split
    · exact hcount.trans (.single (Move.arrive h))
    · exact hcount
  · exact s.setCounts_moves 0 s.spin.settle s.spin.retreats

theorem Spin.countRetreat_eq (p : Spin) : p.countRetreat = { p with
    retreats := if p.retreats < p.par.maxRetreats then p.retreats + 1 else p.retreats } := by
  unfold Spin.countRetreat
  split <;> rfl

/-- R99: counting a retreat, and then the descent to the dwell step below. -/
theorem State.watchRetreat_moves {i : Nat} (h : s.spin.state.descends = true)
    (hi : s.spin.height = i) (hpos : 0 < i) :
    Moves s ((s.setSpin s.spin.countRetreat).startRetreating (s.spin.dwellBelow i) .watch) := by
  rw [Spin.countRetreat_eq]
  generalize (if s.spin.retreats < s.spin.par.maxRetreats then _ else _) = n
  refine (s.setCounts_moves s.spin.rampCount s.spin.settle n).trans ?_
  generalize hx : s.setSpin _ = x
  have hheight : x.spin.height = i := by rw [← hx]; exact hi
  have hladder : x.spin.ladder = s.spin.ladder := by rw [← hx]; rfl
  have hstate : x.spin.state = s.spin.state := by rw [← hx]; rfl
  rw [← Spin.dwellBelow_congr hladder, ← hheight]
  exact .single (.retreat .watch (by rwa [hstate]) (by rwa [hheight]))

theorem State.rampingRecord_moves (r : RevRecord) (h : s.spin.state = .ramping) :
    Moves s (s.rampingRecord r) := by
  unfold State.rampingRecord
  dsimp only
  split
  next hw => exact s.watchRetreat_moves (by rw [h]; rfl) (if_pos h) hw.2.2
  next => exact s.completionTest_moves r (by rw [h]; rfl)

theorem State.balancingRecord_moves (r : RevRecord) (h : s.spin.state = .balancing) :
    Moves s (s.balancingRecord r) := by
  unfold State.balancingRecord
  dsimp only
  split
  · split
    next hw => exact s.watchRetreat_moves (by rw [h]; rfl) (if_neg (by simp [h])) hw.1
    next =>
      refine (Moves.water (.endAll .stopped)).trans (.single (.resettle .watch ?_ ?_))
      · rw [(s.endAll_frame _).spin, h]
      · exact s.endAll_flight _
  · exact .refl s

theorem State.settlingRecord_moves (r : RevRecord) (h : s.spin.state = .settling) :
    Moves s (s.settlingRecord r) := by
  have hcount := s.setCounts_moves s.spin.rampCount (s.spin.settle + 1) s.spin.retreats
  unfold State.settlingRecord
  dsimp only
  split
  · split
    · exact hcount.trans (.single (.settled h))
    · exact hcount
  · exact .refl s

/-- R51, R52: a record neither begins nor ends a weighing by itself. -/
theorem Weigh.takeRecord_phase (p : Params) (r : RevRecord) (w : Weigh) :
    (w.takeRecord p r).phase = .off ↔ w.phase = .off := by
  unfold Weigh.takeRecord
  split
  next hsteady =>
    have hne : ¬ w.phase = .off := by simp [hsteady]
    split
    · split
      · exact iff_of_false (fun h => nomatch h) hne
      · exact Iff.rfl
    · exact Iff.rfl
  next hhold =>
    have hne : ¬ w.phase = .off := by simp [hhold]
    split
    · exact Iff.rfl
    · exact iff_of_false (fun h => nomatch h) hne
  all_goals exact Iff.rfl

theorem Weigh.takeRecord_limit (p : Params) (r : RevRecord) (w : Weigh) :
    (w.takeRecord p r).limit = w.limit := by
  unfold Weigh.takeRecord
  split
  · split
    · split <;> rfl
    · rfl
  · split <;> rfl
  all_goals rfl

theorem Weigh.complete_closed (p : Params) (w : Weigh) :
    (w.complete p).1.phase = .off ∧ (w.complete p).1.limit = none := by
  unfold Weigh.complete
  split <;> exact ⟨rfl, rfl⟩

theorem State.weighingRecord_moves (r : RevRecord) : Moves s (s.weighingRecord r) := by
  have htake : Moves s (s.setWeigh (s.weigh.takeRecord s.spin.par r)) :=
    .single (.weighed _ (Weigh.takeRecord_phase _ _ _) (by rw [Weigh.takeRecord_limit]))
  unfold State.weighingRecord
  dsimp only
  split
  next hdone =>
    obtain ⟨hoff, hlimit⟩ := Weigh.complete_closed s.spin.par (s.weigh.takeRecord s.spin.par r)
    refine htake.trans (.single (.endWeighing _ (fun h => ?_) hoff hlimit))
    rw [State.setWeigh_weigh] at h
    simp [Weigh.isComplete, h] at hdone
  next => exact htake

theorem State.takeRecord_moves (r : RevRecord) : Moves s (s.takeRecord r) := by
  unfold State.takeRecord
  split
  next => exact s.weighingRecord_moves r
  next h => exact s.rampingRecord_moves r h
  next h => exact s.completionTest_moves r (by rw [h]; rfl)
  next h => exact s.settlingRecord_moves r h
  next h => exact s.measuringRecord_moves r h
  next h => exact s.balancingRecord_moves r h
  all_goals exact .refl s

theorem State.handOff_moves (old : Nat) (r : RevRecord) : Moves s (s.handOff old r) := by
  unfold State.handOff
  dsimp only
  split
  · exact ((s.traceRevolution_moves r).trans (State.speedChanged_moves _ _)).trans
      (State.takeRecord_moves _ _)
  · exact ((s.traceRevolution_moves r).trans (State.takeRecord_moves _ _)).trans
      (State.speedChanged_moves _ _)

theorem State.indexEdge_moves (b : Bool) : Moves s (s.indexEdge b) := by
  unfold State.indexEdge
  dsimp only
  split
  · exact (s.openRevolution_moves _).trans (State.torqueAssigned_moves _ _)
  · exact ((((Moves.setRot s _).trans (.setSamp _ _)).trans
      (State.openRevolution_moves _ _)).trans (State.handOff_moves _ _ _)).trans
      (State.torqueAssigned_moves _ _)

end Decision

/-! ## Every effect as a chain of moves -/

theorem BlockEvent.moves {s t : State} (h : BlockEvent s t) : Moves s t := by
  cases h with
  | powerOnReset lsel => exact .single (.powerOn lsel)
  | indexEdge b => exact s.indexEdge_moves b
  | slotEdge => exact s.slotEdge_moves
  | closeWindow => exact .setRot s _
  | joinPending => exact s.joinPending_moves
  | readComplete x y => exact s.readComplete_moves x y
  | conversionComplete code => exact s.conversionComplete_moves code
  | standstill => exact s.standstill_moves
  | driveFault => exact (Moves.setPins s _).trans (State.abortOn_moves _ rfl)
  | flowPulse => exact s.flowPulse_moves
  | svcFalls =>
    unfold State.svcFalls
    dsimp only
    split
    · exact (Moves.setPins s _).trans (.single .serviceLeave)
    · exact .setPins s _
  | weighLimit => exact s.weighLimit_moves
  | rampTimeout ht => exact s.rampTimeout_moves ht
  | durationEnds => exact s.closeActive_moves rfl
  | clearStep => exact .setTable s (s.table.clearStep_kept _)
  | bleed => exact s.bleed_moves
  | supplyTimeout => exact s.supplyTimeout_moves
  | restart hidle => exact .single (.restart hidle)
  | loadLadder b hrange hlen hok hidle =>
    exact (Moves.single (.ladder b hrange hlen hok hidle)).trans
      (.setTable (s.setSpin _) (s.table.dropBaseline_kept.trans (Table.flushNow_kept _ _)))
  | loadParameters p hrange hok hidle => exact .single (.params p hrange hok hidle)
  | loadBaseline i ks => exact .setTable s (s.table.loadEntries_kept i ks)
  | flushTable => exact .setTable s (s.table.flushNow_kept _)
  | supplyRefused =>
    exact .water (.records _ rfl rfl rfl (Nat.le_max_right _ _) fun _ => Nat.le_max_right _ _)
  | startSpin t n c hmode hbad hidle hprofile =>
    unfold State.beginSession
    dsimp only
    split
    · exact (Moves.single (.start t n c hmode hbad hidle hprofile)).trans
        (State.abortOn_moves _ rfl)
    · exact .single (.start t n c hmode hbad hidle hprofile)
  | setTarget t hbad hstate => exact .single (.target t hbad hstate)
  | stop => exact s.closeActive_moves rfl
  | setTrace b hb => exact .setTrace s fun h => h.takeSettings hb
  | readTrace n => exact .setTrace s fun h => h.drop n
  | serviceEnter hidle => exact .single (.serviceEnter hidle)
  | serviceLeave => exact .single .serviceLeave
  | depositSlot i slot choice hc => exact .setTable s (s.table.deposit_kept i slot hc)
  | depositChamber c g => exact s.depositContent_moves c g
  | manualFill b hmode => exact .water (.take _ rfl hmode)
  | stopAll => exact .water (.endAll _)
  | stopChamber c => exact s.stopChamber_moves c
  | forceBaseline low high => exact .same ⟨rfl, rfl, rfl, rfl, rfl, id, .refl _, id⟩

theorem SameBlocks.moves {s t : State} (h : SameBlocks s t) : Moves s t := by
  obtain ⟨n, hn⟩ := h.trace
  exact .same ⟨h.spin, h.est, h.weigh, h.cham, by rw [h.serv], by rw [h.samp]; exact id,
    by rw [h.table]; exact .refl _, by rw [hn]; exact fun hs => hs.drop n⟩

/-- What a step does to a session is a chain of moves. -/
theorem step_moves {s t : State} (h : step s = .next t) : Moves s t := by
  obtain ⟨u, v, hu, hv, ht⟩ := step_blocks h
  refine (hu.moves.trans ?_).trans ht.moves
  obtain rfl | hv := hv
  · exact .refl v
  · exact hv.moves

end Sys2Proof.Machine
end

section
/-! The session record agrees with the spin state (O4): SessionOk is kept by every move. -/

namespace Sys2Proof.Machine

section
variable {s t : State}

/-- SessionOk reads the spin record, the weighing's phase and limit, and the service-mode mark. -/
theorem State.SessionOk.congr (hs : s.SessionOk) (hspin : t.spin = s.spin)
    (hphase : t.weigh.phase = .off ↔ s.weigh.phase = .off)
    (hlimit : t.weigh.limit.isSome = s.weigh.limit.isSome) (hmode : t.serv.mode = s.serv.mode) :
    t.SessionOk := by
  have hoff : (t.weigh.phase != .off) = (s.weigh.phase != .off) := by
    by_cases h : s.weigh.phase = .off
    · rw [h, hphase.2 h]
    · rw [bne_iff_ne.2 h, bne_iff_ne.2 (mt hphase.1 h)]
  obtain ⟨hden, hbrk, hdem, hdest, hdir, htimer, hretreat, hsession, hclosing, hwind, habort, hweigh,
    hlim, hserv⟩ := hs
  unfold State.SessionOk
  rw [hspin, hmode, hlimit, hoff, Ne, hphase]
  exact ⟨hden, hbrk, hdem, hdest, hdir, htimer, hretreat, hsession, hclosing, hwind, habort, hweigh,
    hlim, hserv⟩

/-- The weighing is over, as it is in every spin state but WEIGHING. -/
def State.Unweighed (s : State) : Prop := s.weigh.phase = .off ∧ s.weigh.limit = none

theorem State.SessionOk.unweighed (hs : s.SessionOk) (h : s.spin.state ≠ .weighing) : s.Unweighed := by
  obtain ⟨-, -, -, -, -, -, -, -, -, -, -, hweigh, hlim, -⟩ := hs
  have hoff : s.weigh.phase = .off := Classical.not_not.1 (mt hweigh.1 h)
  rw [hoff] at hlim
  exact ⟨hoff, Option.isNone_iff_eq_none.1 (by simpa using hlim)⟩

theorem State.SessionOk.normal (hs : s.SessionOk) (h : s.spin.state ≠ .idle) : s.serv.mode = false := by
  obtain ⟨-, -, -, -, -, -, -, -, -, -, -, -, -, hserv⟩ := hs
  exact Bool.eq_false_iff.2 (mt hserv h)

/-- In an active state DEN is asserted and BRK released, the session timer runs and no closing cause is held. -/
theorem State.SessionOk.session (hs : s.SessionOk) (hactive : s.spin.state.active = true) :
    s.spin.den = true ∧ s.spin.brk = false ∧ s.spin.sessionTimer.isSome = true
      ∧ s.spin.closing = none ∧ s.serv.mode = false := by
  have hne (st : SpinState) (h : st.active = false) : s.spin.state ≠ st := fun he => by
    rw [he, h] at hactive
    exact nomatch hactive
  have hmode := hs.normal (hne .idle rfl)
  obtain ⟨hden, hbrk, -, -, -, -, -, hsession, hclosing, -, -, -, -, -⟩ := hs
  rw [hactive] at hden hsession
  rw [beq_false_of_ne (hne .aborting rfl)] at hbrk
  rw [SpinState.isClosing, beq_false_of_ne (hne .winddown rfl), beq_false_of_ne (hne .aborting rfl)]
    at hclosing
  exact ⟨hden, hbrk, hsession, Option.isNone_iff_eq_none.1 (by simpa using hclosing), hmode⟩

/-- A ramp starts in an active state (R118). -/
theorem State.SessionOk.ramp (hs : s.SessionOk) {new : SpinState} {i : Nat} {dir : Dir} {demand : Nat}
    {timer : Timer} (hactive : s.spin.state.active = true)
    (hnew : new = .ramping ∨ new = .retreating ∧ dir = .down)
    (hspin : t.spin = { s.spin with
      state := new, dest := some i, dir := some dir, demand := demand, rampCount := 0
      rampTimer := some timer, plans := 0 })
    (hoff : t.Unweighed) (hmode : t.serv.mode = s.serv.mode) : t.SessionOk := by
  obtain ⟨hphase, hlimit⟩ := hoff
  obtain ⟨hden, hbrk, hsession, hclosing, hnormal⟩ := hs.session hactive
  obtain rfl | ⟨rfl, rfl⟩ := hnew <;>
    simp [State.SessionOk, SpinState.active, hspin, hden, hbrk, hsession, hclosing, hphase, hlimit,
      hmode, hnormal]

/-- The basket holds a step in SETTLING, MEASURING and BALANCING (R120 to R123). -/
def SpinState.plateau : SpinState → Bool
  | .settling | .measuring | .balancing => true
  | .weighing | .ramping | .retreating | .winddown | .aborting | .idle => false

theorem State.SessionOk.hold (hs : s.SessionOk) (hactive : s.spin.state.active = true)
    (hnew : t.spin.state.plateau = true) (hden : t.spin.den = s.spin.den)
    (hbrk : t.spin.brk = s.spin.brk) (hdest : t.spin.dest = none) (hdir : t.spin.dir = none)
    (htimer : t.spin.rampTimer = none) (hsession : t.spin.sessionTimer = s.spin.sessionTimer)
    (hclosing : t.spin.closing = s.spin.closing) (hoff : t.Unweighed)
    (hmode : t.serv.mode = s.serv.mode) : t.SessionOk := by
  obtain ⟨hphase, hlimit⟩ := hoff
  obtain ⟨hden0, hbrk0, hsession0, hclosing0, hnormal⟩ := hs.session hactive
  rw [hden0] at hden
  rw [hbrk0] at hbrk
  rw [← hsession] at hsession0
  rw [hclosing0] at hclosing
  rw [hnormal] at hmode
  cases hstate : t.spin.state <;> rw [hstate] at hnew <;> cases hnew <;>
    simp [State.SessionOk, SpinState.active, hstate, hden, hbrk, hdest, hdir, htimer, hsession0,
      hclosing, hphase, hlimit, hmode]

/-- No ramp is in flight outside RAMPING and RETREATING. -/
theorem State.SessionOk.noRamp (hs : s.SessionOk) (h : s.spin.state.hasRamp = false) :
    s.spin.dest = none ∧ s.spin.dir = none ∧ s.spin.rampTimer = none := by
  obtain ⟨-, -, -, hdest, hdir, htimer, -⟩ := hs
  rw [h] at hdest hdir htimer
  exact ⟨Option.isNone_iff_eq_none.1 (by simpa using hdest),
    Option.isNone_iff_eq_none.1 (by simpa using hdir),
    Option.isNone_iff_eq_none.1 (by simpa using htimer)⟩

theorem State.SessionOk.idle (hstate : t.spin.state = .idle) (hden : t.spin.den = false)
    (hbrk : t.spin.brk = false) (hdemand : t.spin.demand = 0) (hdest : t.spin.dest = none)
    (hdir : t.spin.dir = none) (htimer : t.spin.rampTimer = none)
    (hsession : t.spin.sessionTimer = none) (hclosing : t.spin.closing = none) (hoff : t.Unweighed) :
    t.SessionOk := by
  obtain ⟨hphase, hlimit⟩ := hoff
  simp [State.SessionOk, SpinState.active, hstate, hden, hbrk, hdemand, hdest, hdir, htimer,
    hsession, hclosing, hphase, hlimit]

/-! ## Closing and ending -/

theorem State.plateauLeft_serv (s : State) : s.plateauLeft.serv = s.serv := s.plateauLeft_frame.serv

theorem SpinState.isClosing_spec {st : SpinState} (h : st.isClosing = true) :
    st.active = false ∧ st.hasRamp = false ∧ st ≠ .weighing := by
  revert h
  cases st <;> decide

theorem State.sessionEnded_ok (hs : s.SessionOk) (h : s.spin.state.isClosing = true) :
    s.sessionEnded.SessionOk := by
  obtain ⟨hactive, hramp, hweigh⟩ := SpinState.isClosing_spec h
  obtain ⟨hdest, hdir, htimer⟩ := hs.noRamp hramp
  have hsession : s.spin.sessionTimer = none := by
    obtain ⟨-, -, -, -, -, -, -, hsession, -⟩ := hs
    rw [hactive] at hsession
    exact Option.isNone_iff_eq_none.1 (by simpa using hsession)
  exact .idle rfl rfl rfl rfl hdest hdir htimer hsession rfl (hs.unweighed hweigh)

theorem State.endedIfStopped_ok (hs : s.SessionOk) (h : s.spin.state.isClosing = true) :
    s.endedIfStopped.SessionOk := by
  unfold State.endedIfStopped
  split
  · exact State.sessionEnded_ok hs h
  · exact hs

/-- R134, R136: the entry to a closing state with the DEN, BRK and cause that belong to it. -/
theorem State.sessionClosed_ok (hs : s.SessionOk) (hstate : s.spin.state ≠ .idle) {new : SpinState}
    {c : Cause} {den brk : Bool}
    (hnew : new = .winddown ∧ c.closesByWinddown = true ∧ den = true ∧ brk = false
      ∨ new = .aborting ∧ c.closesByWinddown = false ∧ den = false ∧ brk = true) :
    (s.sessionClosed new c den brk).SessionOk := by
  have hmode : s.plateauLeft.serv.mode = false := by rw [s.plateauLeft_serv, hs.normal hstate]
  have hoff : (s.sessionClosed new c den brk).Unweighed := by
    by_cases hweigh : s.spin.state = .weighing
    · simp [State.sessionClosed, State.Unweighed, hweigh, Weigh.reset]
    · obtain ⟨hphase, hlimit⟩ := hs.unweighed hweigh
      simp [State.sessionClosed, State.Unweighed, hweigh, hphase, hlimit]
  obtain ⟨hphase, hlimit⟩ := hoff
  obtain ⟨rfl, hc, rfl, rfl⟩ | ⟨rfl, hc, rfl, rfl⟩ := hnew <;>
    refine ⟨rfl, rfl, fun _ => rfl, rfl, rfl, rfl, fun h => (nomatch h), rfl, rfl, ?_, ?_, ?_, ?_, ?_⟩
  case inl.refine_1 => exact fun _ => hc
  case inl.refine_2 => exact fun h => nomatch h
  case inr.refine_1 => exact fun h => nomatch h
  case inr.refine_2 =>
    intro _
    show (!c.closesByWinddown) = true
    rw [hc]
    rfl
  all_goals first
    | exact iff_of_false (Classical.not_not.2 hphase) (fun h => nomatch h)
    | rw [hphase, hlimit]; rfl
    | exact fun h => absurd h (ne_true_of_eq_false hmode)

theorem State.enterWinddown_ok (hs : s.SessionOk) (h : s.spin.state.active = true) {c : Cause}
    (hc : c.closesByWinddown = true) : (s.enterWinddown c).SessionOk := by
  obtain ⟨hden, hbrk, -⟩ := hs.session h
  rw [State.enterWinddown_eq]
  exact State.endedIfStopped_ok (State.sessionClosed_ok hs (fun he => by rw [he] at h; exact nomatch h)
    (.inl ⟨rfl, hc, hden, hbrk⟩)) rfl

theorem State.enterAborting_ok (hs : s.SessionOk) (h : s.spin.state ≠ .idle) {c : Cause}
    (hc : c.closesByWinddown = false) : (s.enterAborting c).SessionOk := by
  rw [State.enterAborting_eq]
  exact State.endedIfStopped_ok (State.sessionClosed_ok hs h (.inr ⟨rfl, hc, rfl, rfl⟩)) rfl

/-! ## Ramps and their ends -/

theorem SpinState.ne_of_active {st st' : SpinState} (h : st.active = true) (h' : st'.active = false) :
    st ≠ st' := fun he => by
  rw [he, h'] at h
  exact nomatch h

theorem State.startRamping_ok (hs : s.SessionOk) (hactive : s.spin.state.active = true)
    (hoff : s.Unweighed) (i : Nat) (dir : Dir) (reason : StateReason) :
    (s.startRamping i dir reason).SessionOk := by
  exact hs.ramp hactive (.inl rfl) (s.startRamping_spin i dir reason)
    (by rw [State.Unweighed, State.startRamping_weigh]; exact hoff)
    (by rw [(s.startRamping_frame i dir reason).serv])

theorem State.startRetreating_ok (hs : s.SessionOk) (hactive : s.spin.state.active = true)
    (hoff : s.Unweighed) (i : Nat) (reason : StateReason) :
    (s.startRetreating i reason).SessionOk := by
  rw [State.startRetreating_eq]
  exact hs.ramp hactive (.inr ⟨rfl, rfl⟩) (s.descending_spin i reason)
    (by rw [State.Unweighed, State.descending_weigh]; exact hoff) (by rw [State.descending_serv])

theorem State.lowerCeiling_ok (hs : s.SessionOk) (n : Nat) (c : CeilingCause) :
    (s.lowerCeiling n c).SessionOk := by
  obtain ⟨hden, hbrk, hdem, hdest, hdir, htimer, hretreat, hsession, hclosing, hwind, habort, hweigh,
    hlim, hserv⟩ := hs
  refine ⟨hden, hbrk, fun h => ?_, ?_, hdir, htimer, hretreat, hsession, hclosing, hwind, habort, hweigh,
    hlim, hserv⟩
  · show min s.spin.demand _ = 0
    rw [hdem h, Nat.zero_min]
  · exact Option.isSome_map.trans hdest

theorem SpinState.descends_spec {st : SpinState} (h : st.descends = true) :
    st.active = true ∧ st ≠ .weighing := by
  revert h
  cases st <;> decide

theorem SpinState.hasRamp_spec {st : SpinState} (h : st.hasRamp = true) :
    st.active = true ∧ st ≠ .weighing := by
  revert h
  cases st <;> decide

/-- R128: a new target leaves the session record as it is, starts a descent, or redirects a ramp. -/
theorem State.applyTarget_cases (s : State) (t : Nat) :
    s.applyTarget t = s ∧ (s.spin.state = .ramping → s.spin.dest.getD 0 ≤ t)
        ∧ (s.spin.state.plateau = true → s.spin.below t = false)
      ∨ (s.spin.state.descends || s.spin.state == .settling) = true
        ∧ s.spin.below t = true ∧ s.applyTarget t = s.startRetreating t .target
      ∨ s.spin.state = .ramping ∧ t < s.spin.dest.getD 0 ∧ s.spin.below t = false
        ∧ s.applyTarget t = s.setRamp t (s.rampDir t) := by
  unfold State.applyTarget
  cases hstate : s.spin.state <;> dsimp only
  case ramping =>
    by_cases hdest : s.spin.dest.getD 0 ≤ t
    · exact .inl ⟨if_pos hdest, fun _ => hdest, fun h => nomatch h⟩
    · rw [if_neg hdest]
      cases hbelow : s.spin.below t
      · exact .inr (.inr ⟨rfl, Nat.lt_of_not_le hdest, rfl, rfl⟩)
      · exact .inr (.inl ⟨rfl, rfl, rfl⟩)
  case settling | measuring | balancing =>
    cases hbelow : s.spin.below t
    · exact .inl ⟨rfl, fun h => (nomatch h), fun _ => rfl⟩
    · exact .inr (.inl ⟨rfl, rfl, rfl⟩)
  all_goals exact .inl ⟨rfl, fun h => (nomatch h), fun h => (nomatch h)⟩

theorem State.applyTarget_ok (hs : s.SessionOk) (t : Nat) : (s.applyTarget t).SessionOk := by
  obtain ⟨heq, -⟩ | ⟨hstate, -, heq⟩ | ⟨hstate, -, -, heq⟩ := s.applyTarget_cases t
  · rw [heq]
    exact hs
  · have hspec : s.spin.state.active = true ∧ s.spin.state ≠ .weighing := by
      revert hstate
      cases s.spin.state <;> decide
    rw [heq]
    exact State.startRetreating_ok hs hspec.1 (hs.unweighed hspec.2) t .target
  · rw [heq]
    obtain ⟨hden, hbrk, hdem, -, -, -, -, hsession, hclosing, hwind, habort, hweigh, hlim, hserv⟩ := hs
    have hramp : s.spin.state.hasRamp = true := by rw [hstate]; rfl
    refine ⟨hden, hbrk, fun h => ?_, hramp.symm, hramp.symm, hramp.symm, fun h => ?_, hsession, hclosing,
      hwind, habort, hweigh, hlim, hserv⟩
    · exact absurd h (by simp [State.setRamp, hstate, SpinState.active])
    · exact absurd h (by simp [State.setRamp, hstate])

/-! ## The invariant -/

theorem Move.sessionOk (h : Move s t) (hs : s.SessionOk) : t.SessionOk := by
  have hmeasuring (hm : s.spin.state = .measuring) :
      s.spin.state.active = true ∧ s.Unweighed ∧ s.spin.dest = none ∧ s.spin.dir = none
        ∧ s.spin.rampTimer = none :=
    ⟨by rw [hm]; rfl, hs.unweighed (by rw [hm]; exact fun h => nomatch h), hs.noRamp (by rw [hm]; rfl)⟩
  cases h with
  | same h => exact hs.congr h.spin (by rw [h.weigh]) (by rw [h.weigh]) h.mode
  | weighed w hphase hlimit => exact hs.congr rfl hphase hlimit rfl
  | endWeighing e hphase hoff hlimit =>
    have hstate : s.spin.state = .weighing := by
      obtain ⟨-, -, -, -, -, -, -, -, -, -, -, hweigh, -⟩ := hs
      exact hweigh.1 hphase
    refine hs.ramp (t := s.endWeighing e) (by rw [hstate]; rfl) (.inl rfl)
      (State.startRamping_spin _ _ _ _) ?_ 
      (congrArg Service.mode (State.startRamping_frame (giveReport (.weighed e.2) (s.setWeigh e.1)) _ _ _).serv)
    rw [State.endWeighing, State.rampFromWeighing, State.Unweighed, State.startRamping_weigh]
    exact ⟨hoff, hlimit⟩
  | water h => exact hs.congr h.frame.spin (by rw [h.frame.weigh]) (by rw [h.frame.weigh]) (by rw [h.frame.serv])
  | estimate e => exact hs.congr rfl Iff.rfl rfl rfl
  | counted => exact hs
  | advance i d hm =>
    obtain ⟨hactive, hoff, -⟩ := hmeasuring hm
    exact State.startRamping_ok hs hactive hoff _ _ _
  | retreat reason hd =>
    obtain ⟨hactive, hne⟩ := SpinState.descends_spec hd
    exact State.startRetreating_ok hs hactive (hs.unweighed hne) _ _
  | capRetreat hm =>
    obtain ⟨hactive, hoff, -⟩ := hmeasuring hm
    exact State.startRetreating_ok (State.lowerCeiling_ok hs _ _) hactive hoff _ _
  | shortfall htimer =>
    have hramp : s.spin.state.hasRamp = true := by
      obtain ⟨-, -, -, -, -, hrt, -⟩ := hs
      rw [← hrt, htimer]
    obtain ⟨hactive, hne⟩ := SpinState.hasRamp_spec hramp
    exact State.startRetreating_ok (State.lowerCeiling_ok hs _ _) hactive (hs.unweighed hne) _ _
  | arrive hramp =>
    obtain ⟨hactive, hne⟩ := SpinState.hasRamp_spec hramp
    exact hs.hold hactive rfl rfl rfl rfl rfl rfl rfl rfl (hs.unweighed hne) rfl
  | settled hstate =>
    obtain ⟨hdest, hdir, htimer⟩ := hs.noRamp (by rw [hstate]; rfl)
    exact hs.hold (by rw [hstate]; rfl) rfl rfl rfl hdest hdir htimer rfl rfl
      (hs.unweighed (by rw [hstate]; exact fun h => nomatch h)) rfl
  | resettle reason hstate =>
    obtain ⟨hdest, hdir, htimer⟩ := hs.noRamp (by rw [hstate]; rfl)
    exact hs.hold (by rw [hstate]; rfl) rfl rfl rfl hdest hdir htimer rfl rfl
      (hs.unweighed (by rw [hstate]; exact fun h => nomatch h)) rfl
  | balance i a k orders hm =>
    obtain ⟨hactive, hoff, hdest, hdir, htimer⟩ := hmeasuring hm
    have hf := (WaterFrame.refl (s.setEst _)).trans
      (State.takeOrders_frame (s.setEst { s.est.emptied with
        preFill := some ⟨i, a, k, Vector.replicate 4 0⟩ }) orders)
    have hspin := s.enterBalancing_spin i a k orders
    have hunweighed : (s.enterBalancing i a k orders).Unweighed := by
      show (State.takeOrders _ orders).Unweighed
      rw [State.Unweighed, hf.weigh]
      exact hoff
    exact hs.hold hactive (by rw [hspin]; rfl) (by rw [hspin]) (by rw [hspin]) (by rw [hspin]; exact hdest)
      (by rw [hspin]; exact hdir) (by rw [hspin]; exact htimer) (by rw [hspin]) (by rw [hspin]) hunweighed
      (congrArg Service.mode hf.serv)
  | cap hm => exact State.lowerCeiling_ok hs _ _
  | winddown c h hc => exact State.enterWinddown_ok hs h hc
  | abort c h hc =>
    refine State.enterAborting_ok hs (fun he => ?_) hc
    rw [he] at h
    exact nomatch h
  | endSession h =>
    rw [State.endSession_eq]
    exact State.sessionEnded_ok hs h
  | target t _ _ => exact State.applyTarget_ok (s := s.setSpin { s.spin with target := some t }) hs t
  | start t seconds continuation hmode _ hidle =>
    have hbrk : s.spin.brk = false := by
      obtain ⟨-, hbrk, -⟩ := hs
      rw [hbrk, hidle]
      rfl
    simp [State.SessionOk, State.prepareSession, Spin.begin, Spin.noRamp, Weigh.begin, SpinState.active,
      hbrk]
    exact hmode
  | ladder => exact hs
  | params => exact hs
  | restart => exact .idle rfl rfl rfl rfl rfl rfl rfl rfl rfl ⟨rfl, rfl⟩
  | powerOn lsel => exact .idle rfl rfl rfl rfl rfl rfl rfl rfl rfl ⟨rfl, rfl⟩
  | serviceEnter hidle =>
    obtain ⟨hden, hbrk, hdem, hdest, hdir, htimer, hretreat, hsession, hclosing, hwind, habort, hweigh,
      hlim, -⟩ := hs
    exact ⟨hden, hbrk, hdem, hdest, hdir, htimer, hretreat, hsession, hclosing, hwind, habort, hweigh,
      hlim, fun _ => hidle⟩
  | serviceLeave =>
    have hf : WaterFrame (s.setServ { s.serv with mode := false }) s.leaveService :=
      State.endAll_frame _ _
    have hdropped : (s.setServ { s.serv with mode := false }).SessionOk := by
      obtain ⟨hden, hbrk, hdem, hdest, hdir, htimer, hretreat, hsession, hclosing, hwind, habort, hweigh,
        hlim, -⟩ := hs
      exact ⟨hden, hbrk, hdem, hdest, hdir, htimer, hretreat, hsession, hclosing, hwind, habort, hweigh,
        hlim, fun h => nomatch h⟩
    exact hdropped.congr hf.spin (by rw [hf.weigh]) (by rw [hf.weigh]) (by rw [hf.serv])

end

/-- Settles O4, by the moves a step is made of. -/
theorem stepKeepsSession : Obligations.StepKeepsSession :=
  fun _ _ hs h => (step_moves h).keeps Move.sessionOk hs

end Sys2Proof.Machine
end

section
/-! The estimator's records belong to their spin states (O5): EstimatorOk is kept by every move. -/

namespace Sys2Proof.Machine

section
variable {s t : State}

/-- EstimatorOk reads the window, the pre-fill record, the latest estimate and the spin state. -/
theorem State.EstimatorOk.congr (hs : s.EstimatorOk) (hstate : t.spin.state = s.spin.state)
    (hwindow : t.est.window = s.est.window)
    (hpre : t.est.preFill.isSome = true → s.est.preFill.isSome = true)
    (hlatest : t.est.latest = s.est.latest) : t.EstimatorOk := by
  obtain ⟨hw, hp, hl⟩ := hs
  unfold State.EstimatorOk
  rw [hstate, hwindow, hlatest]
  exact ⟨hw, hp ∘ hpre, hl⟩

/-- With no window and no pre-fill record only the latest estimate is left to place. -/
theorem State.EstimatorOk.emptied (hwindow : t.est.window = []) (hpre : t.est.preFill = none)
    (hidle : t.spin.state = .idle → t.est.latest = none) : t.EstimatorOk := by
  refine ⟨fun h => absurd hwindow h, fun h => ?_, fun h he => ?_⟩
  · rw [hpre] at h
    exact nomatch h
  · rw [hidle he] at h
    exact nomatch h

/-- Outside the states that hold one there is no window and no pre-fill record. -/
theorem State.EstimatorOk.empty (hs : s.EstimatorOk) (h : s.spin.state.plateau = false) :
    s.est.window = [] ∧ s.est.preFill = none := by
  obtain ⟨hw, hp, -⟩ := hs
  refine ⟨Classical.byContradiction fun hne => ?_, Option.not_isSome_iff_eq_none.1 fun hsome => ?_⟩
  · rw [hw hne] at h
    exact nomatch h
  · obtain hb | hb | hb := hp hsome <;> rw [hb] at h <;> exact nomatch h

theorem State.endedIfStopped_estimatorOk (h : s.EstimatorOk) : s.endedIfStopped.EstimatorOk := by
  unfold State.endedIfStopped
  split
  · exact .emptied rfl rfl fun _ => rfl
  · exact h

theorem State.sessionClosed_estimatorOk {new : SpinState} (hnew : new ≠ .idle) (c : Cause)
    (den brk : Bool) : (s.sessionClosed new c den brk).EstimatorOk :=
  .emptied rfl rfl fun h => absurd h hnew

theorem State.startRamping_estimatorOk (i : Nat) (dir : Dir) (reason : StateReason) :
    (s.startRamping i dir reason).EstimatorOk := by
  rw [State.startRamping_eq]
  exact .emptied rfl rfl fun h => nomatch h

theorem State.startRetreating_estimatorOk (i : Nat) (reason : StateReason) :
    (s.startRetreating i reason).EstimatorOk := by
  rw [State.startRetreating_eq]
  exact .emptied rfl rfl fun h => nomatch h

theorem Move.estimatorOk (h : Move s t) (hs : s.EstimatorOk) : t.EstimatorOk := by
  cases h with
  | same h => exact hs.congr (by rw [h.spin]) (by rw [h.est]) (by rw [h.est]; exact id) (by rw [h.est])
  | weighed | counted | cap | ladder | params | serviceEnter =>
    exact hs.congr rfl rfl id rfl
  | endWeighing | advance => exact State.startRamping_estimatorOk _ _ _
  | water h =>
    have hf := h.frame
    exact hs.congr (by rw [hf.spin]) hf.window hf.preFill hf.latest
  | estimate e hm hpre _ =>
    obtain ⟨-, hp, -⟩ := hs
    exact ⟨fun _ => hm, hp ∘ hpre, fun _ => by show s.spin.state ≠ .idle; rw [hm]; exact fun h => nomatch h⟩
  | retreat | capRetreat | shortfall => exact State.startRetreating_estimatorOk _ _
  | arrive hramp =>
    obtain ⟨hwindow, hpre⟩ := hs.empty (by revert hramp; cases s.spin.state <;> decide)
    exact .emptied hwindow hpre fun h => nomatch h
  | settled hstate =>
    exact ⟨fun _ => rfl, fun _ => .inr (.inr rfl), fun _ h => nomatch h⟩
  | resettle reason hstate =>
    obtain ⟨hw, -⟩ := hs
    refine ⟨fun hne => ?_, fun _ => .inr (.inl rfl), fun _ h => nomatch h⟩
    have hm := hw hne
    rw [hstate] at hm
    exact nomatch hm
  | balance i a k orders =>
    have hf := State.takeOrders_frame
      (s.setEst { s.est.emptied with preFill := some ⟨i, a, k, Vector.replicate 4 0⟩ }) orders
    exact ⟨fun hne => absurd hf.window hne, fun _ => .inl rfl, fun _ h => nomatch h⟩
  | winddown c =>
    rw [State.enterWinddown_eq]
    exact State.endedIfStopped_estimatorOk (State.sessionClosed_estimatorOk (by decide) _ _ _)
  | abort c =>
    rw [State.enterAborting_eq]
    exact State.endedIfStopped_estimatorOk (State.sessionClosed_estimatorOk (by decide) _ _ _)
  | endSession | start | restart | powerOn => exact .emptied rfl rfl fun _ => rfl
  | target n =>
    obtain ⟨heq, -⟩ | ⟨-, -, heq⟩ | ⟨-, -, -, heq⟩ :=
      (s.setSpin { s.spin with target := some n }).applyTarget_cases n
    · rw [heq]
      exact hs.congr rfl rfl id rfl
    · rw [heq]
      exact State.startRetreating_estimatorOk _ _
    · rw [heq]
      exact hs.congr rfl rfl id rfl
  | serviceLeave =>
    have hf : WaterFrame (s.setServ { s.serv with mode := false }) s.leaveService :=
      State.endAll_frame _ _
    exact hs.congr (by rw [hf.spin]; rfl) hf.window hf.preFill hf.latest

end

/-- Settles O5: the records and the spin state change together in every move. -/
theorem stepKeepsEstimator : Obligations.StepKeepsEstimator :=
  fun _ _ _ hs h => (step_moves h).keeps Move.estimatorOk hs

end Sys2Proof.Machine
end

section
/-! The water supply (O6): the chamber records stay in order under every move, and orders are held only where their origin
allows it. -/

namespace Sys2Proof.Machine

/-! ## The chamber records -/

section Chambers
variable {t u : ChamberCtl}

/-- The line is free: no order is in flight, and the queued ones, one per chamber, are in range. -/
structure ChamberCtl.Free (t : ChamberCtl) (q : List Order) : Prop where
  nodup : (q.map Order.chamber).Nodup
  flight : t.flight = none
  timer : t.supplyTimer = none
  content : ∀ c, t.content c ≤ capacity
  amount : ∀ o ∈ q, 1 ≤ o.amount ∧ o.amount ≤ capacity
  leak : t.leak ≤ 255

theorem ChamberCtl.held_none (h : t.flight = none) : t.held = t.queue.map Order.chamber := by
  rw [ChamberCtl.held, h]
  exact List.append_nil _

theorem ChamberCtl.held_some {f : Flight} (h : t.flight = some f) :
    t.held = t.queue.map Order.chamber ++ [f.order.chamber] := by
  rw [ChamberCtl.held, h]
  rfl

theorem ChamberCtl.orders_none (h : t.flight = none) : t.orders = t.queue := by
  rw [ChamberCtl.orders, h]
  exact List.append_nil _

theorem ChamberCtl.orders_some {f : Flight} (h : t.flight = some f) :
    t.orders = t.queue ++ [f.order] := by
  rw [ChamberCtl.orders, h]
  rfl

/-- With the line free and nothing queued the records are in order. -/
theorem ChamberCtl.Free.ok (h : t.Free []) (hq : t.queue = []) : t.Ok := by
  unfold ChamberCtl.Ok
  rw [ChamberCtl.held_none h.flight, ChamberCtl.orders_none h.flight, hq, h.flight, h.timer]
  exact ⟨List.nodup_nil, fun hne => absurd rfl hne, rfl, h.content, by simp, h.leak⟩

/-- An order out of a free line's queue starts. -/
theorem ChamberCtl.Free.start {o : Order} {rest : List Order} (h : t.Free (o :: rest)) (now : Stamp)
    (ms : Nat) (o1 : Order) (hc : o1.chamber = o.chamber) (hpos : 1 ≤ o1.amount)
    (hle : o1.amount ≤ capacity) : ({ t with queue := rest }.startOrder now ms o1).Ok := by
  have hnodup := h.nodup
  rw [List.map_cons, List.nodup_cons] at hnodup
  refine ⟨?_, fun _ => rfl, rfl, h.content, fun q hq => ?_, h.leak⟩
  · rw [ChamberCtl.held_some rfl, List.nodup_append]
    refine ⟨hnodup.2, List.pairwise_singleton _ _, fun a ha b hb => ?_⟩
    rw [List.mem_singleton.1 hb]
    exact fun he => hnodup.1 (hc ▸ he ▸ ha)
  · rw [ChamberCtl.orders_some rfl] at hq
    obtain hq | hq := List.mem_append.1 hq
    · exact h.amount q (List.mem_cons_of_mem o hq)
    · rw [List.mem_singleton.1 hq]
      exact ⟨hpos, hle⟩

theorem ChamberCtl.Free.tail {o : Order} {rest : List Order} (h : t.Free (o :: rest))
    (hf : u.flight = t.flight) (ht : u.supplyTimer = t.supplyTimer)
    (hc : ∀ c, u.content c = t.content c) (hl : u.leak = t.leak) : u.Free rest where
  nodup := (List.nodup_cons.1 h.nodup).2
  flight := hf.trans h.flight
  timer := ht.trans h.timer
  content c := hc c ▸ h.content c
  amount q hq := h.amount q (List.mem_cons_of_mem o hq)
  leak := hl ▸ h.leak

/-- The order in flight is over: the line is free, with the queue as it was. -/
theorem ChamberCtl.Ok.free (h : t.Ok) (hf : u.flight = none) (ht : u.supplyTimer = none)
    (hc : ∀ c, u.content c = t.content c) (hl : u.leak = t.leak) : u.Free t.queue := by
  obtain ⟨hnodup, -, -, hcontent, hamount, hleak⟩ := h
  exact ⟨(List.nodup_append.1 hnodup).1, hf, ht, fun c => hc c ▸ hcontent c,
    fun o ho => hamount o (List.mem_append_left _ ho), hl ▸ hleak⟩

theorem ChamberCtl.Ok.queue_nil (h : t.Ok) (hf : t.flight = none) : t.queue = [] := by
  obtain ⟨-, hqueue, -⟩ := h
  refine Classical.byContradiction fun hne => ?_
  have := hqueue hne
  rw [hf] at this
  exact nomatch this

theorem ChamberCtl.Ok.timer_none (h : t.Ok) (hf : t.flight = none) : t.supplyTimer = none := by
  obtain ⟨-, -, htimer, -⟩ := h
  rw [hf] at htimer
  exact Option.isNone_iff_eq_none.1 (by simpa using htimer)

/-- The records stay in order when the orders held become fewer. -/
theorem ChamberCtl.Ok.shrink (h : t.Ok) (hq : u.queue.Sublist t.queue) (hf : u.flight = t.flight)
    (ht : u.supplyTimer = t.supplyTimer) (hc : ∀ c, u.content c ≤ capacity) (hl : u.leak ≤ 255) :
    u.Ok := by
  obtain ⟨hnodup, hqueue, htimer, -, hamount, -⟩ := h
  unfold ChamberCtl.Ok ChamberCtl.held ChamberCtl.orders at *
  rw [hf, ht]
  refine ⟨hnodup.sublist ((hq.map _).append (List.Sublist.refl _)), fun hne => hqueue fun hnil => hne ?_,
    htimer, hc, fun o ho => hamount o ?_, hl⟩
  · rw [hnil] at hq
    exact List.sublist_nil.1 hq
  · exact (hq.append (List.Sublist.refl _)).subset ho

theorem ChamberCtl.room_le (t : ChamberCtl) (c : Fin 4) : t.room c ≤ capacity := Nat.sub_le _ _

theorem ChamberCtl.fillingChamber_iff (t : ChamberCtl) (c : Fin 4) :
    t.fillingChamber c = true ↔ ∃ f, t.flight = some f ∧ f.order.chamber = c := by
  unfold ChamberCtl.fillingChamber
  cases t.flight <;> simp

/-- The last ends of chambers are no concern of the orders. -/
theorem ChamberCtl.Ok.lastEnds (h : t.Ok) (c : Fin 4) (r : EndReason) (os : List Order) :
    ((t.setLastEnd c r).setLastEnds r os).Ok := by
  refine h.shrink ?_ ?_ ?_ (fun d => ?_) ?_
  · rw [ChamberCtl.setLastEnds_queue]
    exact List.Sublist.refl _
  · rw [ChamberCtl.setLastEnds_flight]
    rfl
  · rw [ChamberCtl.setLastEnds_supplyTimer]
    rfl
  · obtain ⟨-, -, -, hcontent, -⟩ := h
    rw [ChamberCtl.content_setLastEnds, ChamberCtl.content_setLastEnd]
    exact hcontent d
  · obtain ⟨-, -, -, -, -, hleak⟩ := h
    rw [ChamberCtl.setLastEnds_leak]
    exact hleak

/-- Orders leave the queue. -/
theorem ChamberCtl.Ok.unqueue (h : t.Ok) (p : Order → Bool) :
    { t with queue := t.queue.filter p }.Ok := by
  obtain ⟨-, -, -, hcontent, -, hleak⟩ := id h
  exact h.shrink List.filter_sublist rfl rfl hcontent hleak

theorem ChamberCtl.allOver_ok (h : t.Ok) (f : Flight) (r : EndReason) : (t.allOver f r).Ok := by
  obtain ⟨-, -, -, hcontent, -⟩ := h
  refine ChamberCtl.Free.ok ⟨List.nodup_nil, rfl, rfl, fun c => ?_, by simp, Nat.zero_le _⟩ rfl
  have heq : (t.allOver f r).content c
      = ((t.setLastEnd f.order.chamber r).setLastEnds r t.queue).content c := rfl
  rw [heq, ChamberCtl.content_setLastEnds, ChamberCtl.content_setLastEnd]
  exact hcontent c

theorem ChamberCtl.meter_ok (h : t.Ok) (now : Stamp) (p : Params) {f : Flight} (hf : t.flight = some f) :
    (t.meter now p f).Ok := by
  obtain ⟨hnodup, -, -, hcontent, hamount, hleak⟩ := h
  rw [ChamberCtl.held_some hf] at hnodup
  rw [ChamberCtl.orders_some hf] at hamount
  refine ⟨hnodup, fun _ => rfl, rfl, fun c => ?_, hamount, hleak⟩
  show (t.setContent f.order.chamber _).content c ≤ capacity
  by_cases hc : f.order.chamber = c
  · subst hc
    rw [ChamberCtl.content_setContent_self]
    exact Nat.min_le_left _ _
  · rw [ChamberCtl.content_setContent_ne _ hc]
    exact hcontent c

end Chambers

/-! ## Moves of the water -/

section Water
variable (s : State)

theorem State.startFrom_ok (q : List Order) (h : s.cham.Free q) : (s.startFrom q).cham.Ok := by
  induction q generalizing s with
  | nil => exact ChamberCtl.Free.ok ⟨h.nodup, h.flight, h.timer, h.content, h.amount, h.leak⟩ rfl
  | cons o rest ih =>
    unfold State.startFrom
    dsimp only
    split
    next =>
      refine ih _ (h.tail ?_ ?_ ?_ ?_) <;> simp [State.endUnstarted_cham, ChamberCtl.setLastEnds]
      all_goals rfl
    next hpos =>
      exact h.start _ _ _ rfl (Nat.one_le_iff_ne_zero.2 hpos)
        (Nat.le_trans (Nat.min_le_right _ _) (ChamberCtl.room_le _ _))

theorem State.startNext_ok (h : s.cham.Free s.cham.queue) : s.startNext.cham.Ok := by
  rw [State.startNext, h.flight]
  exact s.startFrom_ok _ h

theorem State.lineClosed_ok (h : s.cham.Ok) : s.lineClosed.cham.Ok := by
  unfold State.lineClosed
  split
  · exact h
  · obtain ⟨hnodup, hqueue, htimer, hcontent, hamount, -⟩ := h
    exact ⟨hnodup, hqueue, htimer, hcontent, hamount, Nat.zero_le _⟩

theorem State.endAndGoOn_ok (h : s.cham.Ok) (r : EndReason) : (s.endAndGoOn r).cham.Ok := by
  cases hf : s.cham.flight with
  | none =>
    rw [State.endAndGoOn, hf]
    exact h
  | some f =>
    rw [s.endAndGoOn_eq hf]
    have hover : ((s.flightOver f r).handEnd f.order f.delivered r).cham
        = { s.cham.setLastEnd f.order.chamber r with flight := none, supplyTimer := none } :=
      State.handEnd_cham _ _ _ _
    refine State.lineClosed_ok _ (State.startNext_ok _ ?_)
    rw [hover]
    exact h.free rfl rfl (fun c => ChamberCtl.content_setLastEnd _ _ _ _) rfl

theorem State.endAll_ok (h : s.cham.Ok) (r : EndReason) : (s.endAll r).cham.Ok := by
  cases hf : s.cham.flight with
  | none =>
    rw [s.endAll_none hf]
    exact h
  | some f =>
    rw [s.endAll_cham hf]
    exact ChamberCtl.allOver_ok h f r

theorem State.clampOrder_range {o : Order} (h : s.orderCase o ≠ .full) :
    1 ≤ (s.clampOrder o).amount ∧ (s.clampOrder o).amount ≤ capacity := by
  refine ⟨Nat.one_le_iff_ne_zero.2 fun hz => h ?_, Nat.le_trans (Nat.min_le_right _ _) (ChamberCtl.room_le _ _)⟩
  rw [State.orderCase]
  exact if_pos hz

/-- R144: what each case of a new order says of the orders held. -/
theorem State.orderCase_spec (o : Order) :
    match s.orderCase o with
    | .full => (s.clampOrder o).amount = 0
    | .merged => ∃ q ∈ s.cham.queue, q.chamber = o.chamber
    | .replaced => (∀ q ∈ s.cham.queue, q.chamber ≠ o.chamber)
        ∧ ∃ f, s.cham.flight = some f ∧ f.order.chamber = o.chamber
    | .queued => (∀ q ∈ s.cham.queue, q.chamber ≠ o.chamber)
        ∧ ∃ f, s.cham.flight = some f ∧ f.order.chamber ≠ o.chamber
    | .started => (∀ q ∈ s.cham.queue, q.chamber ≠ o.chamber) ∧ s.cham.flight = none := by
  unfold State.orderCase
  by_cases hfull : min o.amount (s.cham.room o.chamber) = 0
  · rw [if_pos hfull]
    exact hfull
  rw [if_neg hfull]
  by_cases hany : s.cham.queue.any (fun q => q.chamber = o.chamber) = true
  · rw [if_pos hany]
    simpa using hany
  rw [if_neg hany]
  have hnone : ∀ q ∈ s.cham.queue, q.chamber ≠ o.chamber := by simpa using hany
  unfold ChamberCtl.fillingChamber
  cases hf : s.cham.flight with
  | none => exact ⟨hnone, rfl⟩
  | some f =>
    by_cases hc : f.order.chamber = o.chamber
    · rw [if_pos (by simpa using hc)]
      exact ⟨hnone, f, rfl, hc⟩
    · rw [if_neg (by simpa using hc)]
      exact ⟨hnone, f, rfl, hc⟩

theorem mergeOrder_chambers (o : Order) (q : List Order) :
    (mergeOrder o q).map Order.chamber = q.map Order.chamber := by
  rw [mergeOrder, List.map_map]
  refine List.map_congr_left fun a _ => ?_
  show (if a.chamber = o.chamber then o else a).chamber = a.chamber
  split
  next h => exact h.symm
  next => rfl

theorem mem_mergeOrder {o a : Order} {q : List Order} (h : a ∈ mergeOrder o q) : a = o ∨ a ∈ q := by
  obtain ⟨b, hb, hab⟩ := List.mem_map.1 h
  split at hab
  · exact .inl hab.symm
  · exact .inr (hab ▸ hb)

theorem State.takeOrder_ok (h : s.cham.Ok) (o : Order) : (s.takeOrder o).cham.Ok := by
  have hspec := s.orderCase_spec o
  have hrange := s.clampOrder_range (o := o)
  unfold State.takeOrder
  dsimp only
  cases hcase : s.orderCase o <;> rw [hcase] at hspec hrange <;> dsimp only at hspec ⊢
  case full =>
    rw [State.endUnstarted_cham]
    exact (h.unqueue _).lastEnds _ _ _
  case merged =>
    obtain ⟨hnodup, hqueue, htimer, hcontent, hamount, hleak⟩ := h
    refine ⟨?_, fun _ => hqueue ?_, htimer, hcontent, fun a ha => ?_, hleak⟩
    · show (_ ++ _ : List (Fin 4)).Nodup
      rw [State.setCham_cham, mergeOrder_chambers]
      exact hnodup
    · obtain ⟨q, hq, -⟩ := hspec
      exact List.ne_nil_of_mem hq
    · obtain ha | ha := List.mem_append.1 ha
      · obtain rfl | ha := mem_mergeOrder ha
        · exact hrange (by simp)
        · exact hamount a (List.mem_append_left _ ha)
      · exact hamount a (List.mem_append_right _ ha)
  case replaced =>
    obtain ⟨hnew, f, hf, hc⟩ := hspec
    obtain ⟨hnodup, -, htimer, hcontent, hamount, hleak⟩ := h
    have hover : (s.endFlight .replaced []).cham
        = { s.cham.setLastEnd f.order.chamber .replaced with flight := none, supplyTimer := none } := by
      rw [s.endFlight_eq hf]
      exact State.handEnd_cham _ _ _ _
    rw [State.setCham_cham, hover]
    rw [ChamberCtl.held_some hf] at hnodup
    refine ⟨?_, fun _ => rfl, ?_, fun c => ?_, fun a ha => ?_, hleak⟩
    · show (s.cham.queue.map Order.chamber ++ [o.chamber]).Nodup
      rw [← hc]
      exact hnodup
    · show s.cham.supplyTimer.isSome = true
      rw [htimer, hf]
      rfl
    · exact Nat.le_trans (Nat.le_of_eq (ChamberCtl.content_setLastEnd s.cham f.order.chamber c .replaced)) (hcontent c)
    · obtain ha | ha := List.mem_append.1 ha
      · exact hamount a (List.mem_append_left _ ha)
      · rw [List.mem_singleton.1 ha]
        exact hrange (by simp)
  case queued =>
    obtain ⟨hnew, f, hf, hc⟩ := hspec
    obtain ⟨hnodup, -, htimer, hcontent, hamount, hleak⟩ := h
    rw [ChamberCtl.held_some hf] at hnodup
    rw [ChamberCtl.orders_some hf] at hamount
    refine ⟨?_, fun _ => by rw [State.setCham_cham]; rw [hf]; rfl, htimer, hcontent, fun a ha => ?_, hleak⟩
    · have hfresh : o.chamber ∉ s.cham.queue.map Order.chamber ++ [f.order.chamber] := fun hmem => by
        obtain hmem | hmem := List.mem_append.1 hmem
        · obtain ⟨q, hq, heq⟩ := List.mem_map.1 hmem
          exact hnew q hq heq
        · exact hc (List.mem_singleton.1 hmem).symm
      rw [State.setCham_cham,
        ChamberCtl.held_some (t := { s.cham with queue := s.cham.queue ++ [s.clampOrder o] }) hf, List.map_append, List.append_assoc,
        (List.perm_append_comm.append_left _).nodup_iff, ← List.append_assoc]
      exact List.nodup_append.2 ⟨hnodup, List.pairwise_singleton _ _,
        fun a ha b hb he => hfresh (List.mem_singleton.1 hb ▸ he ▸ ha)⟩
    · rw [State.setCham_cham,
        ChamberCtl.orders_some (t := { s.cham with queue := s.cham.queue ++ [s.clampOrder o] }) hf] at ha
      obtain ha | ha := List.mem_append.1 ha
      · obtain ha | ha := List.mem_append.1 ha
        · exact hamount a (List.mem_append_left _ ha)
        · rw [List.mem_singleton.1 ha]
          exact hrange (by simp)
      · exact hamount a (List.mem_append_right _ ha)
  case started =>
    obtain ⟨hnew, hf⟩ := hspec
    have hnil := h.queue_nil hf
    have htimer := h.timer_none hf
    obtain ⟨-, -, -, hcontent, -, hleak⟩ := h
    refine State.startNext_ok _ ?_
    rw [State.setCham_cham, hnil]
    exact ⟨List.pairwise_singleton _ _, hf, htimer, hcontent,
      fun a ha => by rw [List.mem_singleton.1 ha]; exact hrange (by simp), hleak⟩

theorem State.takeOrders_ok (os : List Order) (h : s.cham.Ok) : (s.takeOrders os).cham.Ok := by
  induction os generalizing s with
  | nil => exact h
  | cons o rest ih => exact ih _ (s.takeOrder_ok h o)

variable {s}

theorem WaterMove.chamOk {t : State} (h : WaterMove s t) (hs : s.cham.Ok) : t.cham.Ok := by
  cases h with
  | records u hq hf ht hl hc =>
    obtain ⟨-, -, -, hcontent, -, hleak⟩ := id hs
    exact hs.shrink (hq ▸ List.Sublist.refl _) hf ht
      (fun c => Nat.le_trans (hc c) (Nat.max_le.2 ⟨Nat.le_refl _, hcontent c⟩))
      (Nat.le_trans hl (Nat.max_le.2 ⟨Nat.le_refl _, hleak⟩))
  | meter f hf => exact ChamberCtl.meter_ok hs _ _ hf
  | endAll r => exact s.endAll_ok hs r
  | endAndGoOn r => exact s.endAndGoOn_ok hs r
  | take o => exact s.takeOrder_ok hs o
  | unqueue o c =>
    rw [State.endUnstarted_cham]
    exact (hs.unqueue _).lastEnds _ _ _

/-! ## Moves of a session -/

theorem State.plateauLeft_ok (hs : s.cham.Ok) : s.plateauLeft.cham.Ok := by
  unfold State.plateauLeft
  split
  · exact s.endAll_ok hs _
  · exact hs

theorem State.startRamping_cham (i : Nat) (dir : Dir) (reason : StateReason) :
    (s.startRamping i dir reason).cham = s.plateauLeft.cham := by
  rw [State.startRamping_eq]
  rfl

theorem State.startRetreating_cham (i : Nat) (reason : StateReason) :
    (s.startRetreating i reason).cham = s.plateauLeft.cham := by
  rw [State.startRetreating_eq]
  rfl

theorem State.startRamping_chamOk (hs : s.cham.Ok) (i : Nat) (dir : Dir) (reason : StateReason) :
    (s.startRamping i dir reason).cham.Ok := by
  rw [State.startRamping_cham]
  exact State.plateauLeft_ok hs

theorem State.startRetreating_chamOk (hs : s.cham.Ok) (i : Nat) (reason : StateReason) :
    (s.startRetreating i reason).cham.Ok := by
  rw [State.startRetreating_cham]
  exact State.plateauLeft_ok hs

theorem State.endedIfStopped_cham : s.endedIfStopped.cham = s.cham := by
  unfold State.endedIfStopped
  split <;> rfl

theorem State.enterWinddown_cham (c : Cause) : (s.enterWinddown c).cham = s.plateauLeft.cham := by
  rw [State.enterWinddown_eq, State.endedIfStopped_cham]
  rfl

theorem State.enterAborting_cham (c : Cause) : (s.enterAborting c).cham = s.plateauLeft.cham := by
  rw [State.enterAborting_eq, State.endedIfStopped_cham]
  rfl

/-- R160, R159: no order and no leak are left. -/
theorem ChamberCtl.Ok.bare {u : ChamberCtl} (hq : u.queue = []) (hf : u.flight = none)
    (ht : u.supplyTimer = none) (hl : u.leak = 0) (hc : ∀ c, u.content c ≤ capacity) : u.Ok := by
  have hfree : u.Free [] := ⟨List.nodup_nil, hf, ht, hc, by simp, hl ▸ Nat.zero_le _⟩
  exact hfree.ok hq

theorem ChamberCtl.content_restart (u : ChamberCtl) (c : Fin 4) : u.restart.content c = u.content c := by
  have heq : u.restart.content c = u.stopMarks.content c := rfl
  rw [heq, ChamberCtl.stopMarks]
  split <;> simp

theorem ChamberCtl.content_reset (c : Fin 4) : ChamberCtl.reset.content c = 0 := by
  simp [ChamberCtl.content, ChamberCtl.reset]

theorem Move.chamOk {t : State} (h : Move s t) (hs : s.cham.Ok) : t.cham.Ok := by
  cases h with
  | same h =>
    rw [h.cham]
    exact hs
  | weighed | estimate | counted | arrive | settled | resettle | cap | ladder | params | serviceEnter =>
    exact hs
  | endSession =>
    rw [State.endSession_cham]
    exact hs
  | endWeighing e =>
    exact State.startRamping_chamOk (s := giveReport (.weighed e.2) (s.setWeigh e.1)) hs _ _ _
  | advance => exact State.startRamping_chamOk hs _ _ _
  | water h => exact h.chamOk hs
  | retreat => exact State.startRetreating_chamOk hs _ _
  | capRetreat => exact State.startRetreating_chamOk (s := s.lowerCeiling _ .retreats) hs _ _
  | shortfall => exact State.startRetreating_chamOk (s := s.lowerCeiling _ .shortfall) hs _ _
  | balance i a k orders => exact State.takeOrders_ok _ orders hs
  | winddown c =>
    rw [State.enterWinddown_cham]
    exact State.plateauLeft_ok hs
  | abort c =>
    rw [State.enterAborting_cham]
    exact State.plateauLeft_ok hs
  | target n =>
    obtain ⟨heq, -⟩ | ⟨-, -, heq⟩ | ⟨-, -, -, heq⟩ :=
      (s.setSpin { s.spin with target := some n }).applyTarget_cases n
    · rw [heq]
      exact hs
    · rw [heq]
      exact State.startRetreating_chamOk (s := s.setSpin { s.spin with target := some n }) hs _ _
    · rw [heq]
      exact hs
  | start =>
    obtain ⟨hnodup, hqueue, htimer, hcontent, hamount, -⟩ := hs
    exact ⟨hnodup, hqueue, htimer, hcontent, hamount, Nat.zero_le _⟩
  | restart =>
    obtain ⟨-, -, -, hcontent, -⟩ := hs
    exact .bare rfl rfl rfl rfl fun c => Nat.le_trans (Nat.le_of_eq (s.cham.content_restart c)) (hcontent c)
  | powerOn => exact .bare rfl rfl rfl rfl fun c => Nat.le_trans (Nat.le_of_eq (ChamberCtl.content_reset c)) (Nat.zero_le _)
  | serviceLeave => exact State.endAll_ok (s.setServ { s.serv with mode := false }) hs _

end Water

end Sys2Proof.Machine
end

section
/-! Where fill orders may be held (O6): no move brings an order of an origin that its spin state or mode shuts out. -/

namespace Sys2Proof.Machine

/-- An order of this origin is held, queued or in flight. -/
def ChamberCtl.Holds (t : ChamberCtl) (g : Origin) : Prop := ∃ o ∈ t.orders, o.origin = g

theorem ChamberCtl.holds_congr {t u : ChamberCtl} (hq : u.queue = t.queue) (hf : u.flight = t.flight)
    {g : Origin} : u.Holds g ↔ t.Holds g := by
  rw [ChamberCtl.Holds, ChamberCtl.Holds, ChamberCtl.orders, ChamberCtl.orders, hq, hf]

theorem ChamberCtl.holds_of_flight_none {t : ChamberCtl} (hf : t.flight = none) {g : Origin} :
    t.Holds g ↔ ∃ o ∈ t.queue, o.origin = g := by
  rw [ChamberCtl.Holds, ChamberCtl.orders_none hf]

theorem ChamberCtl.Holds.ofQueue {t : ChamberCtl} {g : Origin} (h : ∃ o ∈ t.queue, o.origin = g) :
    t.Holds g := by
  obtain ⟨o, ho, hg⟩ := h
  exact ⟨o, List.mem_append_left _ ho, hg⟩

theorem ChamberCtl.Holds.shrink {t u : ChamberCtl} {g : Origin} (hq : u.queue ⊆ t.queue)
    (hf : u.flight = t.flight) (h : u.Holds g) : t.Holds g := by
  obtain ⟨o, ho, hg⟩ := h
  rw [ChamberCtl.orders, hf] at ho
  exact ⟨o, (List.mem_append.1 ho).elim (fun h => List.mem_append_left _ (hq h))
    (List.mem_append_right _), hg⟩

theorem ChamberCtl.Holds.unqueue {t : ChamberCtl} {g : Origin} {p : Order → Bool}
    (h : { t with queue := t.queue.filter p }.Holds g) : t.Holds g :=
  ChamberCtl.Holds.shrink (u := { t with queue := t.queue.filter p }) List.filter_sublist.subset rfl h

/-- In order, with none in flight, no order is held. -/
theorem ChamberCtl.Ok.holds_none {t : ChamberCtl} (h : t.Ok) (hf : t.flight = none) (g : Origin) :
    ¬ t.Holds g := by
  rw [ChamberCtl.holds_of_flight_none hf, h.queue_nil hf]
  simp

section Water
variable (s : State) {g : Origin}

theorem ChamberCtl.holds_lastEnds (t : ChamberCtl) (c : Fin 4) (r : EndReason) (os : List Order) :
    ((t.setLastEnd c r).setLastEnds r os).Holds g ↔ t.Holds g :=
  ChamberCtl.holds_congr (by simp) (by simp)

theorem State.startFrom_holds (q : List Order) (hf : s.cham.flight = none)
    (h : (s.startFrom q).cham.Holds g) : ∃ o ∈ q, o.origin = g := by
  induction q generalizing s with
  | nil => exact (ChamberCtl.holds_of_flight_none (t := { s.cham with queue := [] }) hf).1 h
  | cons o rest ih =>
    unfold State.startFrom at h
    dsimp only at h
    split at h
    · obtain ⟨a, ha, hg⟩ := ih _ (by rw [State.endUnstarted_cham]; simpa using hf) h
      exact ⟨a, List.mem_cons_of_mem o ha, hg⟩
    · obtain ⟨a, ha, hg⟩ := h
      rw [ChamberCtl.orders_some rfl] at ha
      obtain ha | ha := List.mem_append.1 ha
      · exact ⟨a, List.mem_cons_of_mem o ha, hg⟩
      · exact ⟨o, List.mem_cons_self, by rw [List.mem_singleton.1 ha] at hg; exact hg⟩

theorem State.startNext_holds (hf : s.cham.flight = none) (h : s.startNext.cham.Holds g) :
    ∃ o ∈ s.cham.queue, o.origin = g := by
  rw [State.startNext, hf] at h
  exact s.startFrom_holds _ hf h

theorem State.lineClosed_holds (h : s.lineClosed.cham.Holds g) : s.cham.Holds g := by
  unfold State.lineClosed at h
  split at h
  · exact h
  · exact (ChamberCtl.holds_congr rfl rfl).1 h

theorem State.endAndGoOn_holds (r : EndReason) (h : (s.endAndGoOn r).cham.Holds g) :
    s.cham.Holds g := by
  cases hf : s.cham.flight with
  | none =>
    rw [State.endAndGoOn, hf] at h
    exact h
  | some f =>
    rw [s.endAndGoOn_eq hf] at h
    have hover : ((s.flightOver f r).handEnd f.order f.delivered r).cham
        = { s.cham.setLastEnd f.order.chamber r with flight := none, supplyTimer := none } :=
      State.handEnd_cham _ _ _ _
    have hheld := State.startNext_holds _ (by rw [hover]) (State.lineClosed_holds _ h)
    rw [hover] at hheld
    exact .ofQueue hheld

theorem State.endAll_holds (r : EndReason) (h : (s.endAll r).cham.Holds g) : s.cham.Holds g := by
  cases hf : s.cham.flight with
  | none =>
    rw [s.endAll_none hf] at h
    exact h
  | some f =>
    rw [s.endAll_cham hf, ChamberCtl.holds_of_flight_none rfl] at h
    obtain ⟨o, ho, -⟩ := h
    exact nomatch ho

theorem State.takeOrder_holds (o : Order) (h : (s.takeOrder o).cham.Holds g) :
    s.cham.Holds g ∨ o.origin = g := by
  have hspec := s.orderCase_spec o
  unfold State.takeOrder at h
  dsimp only at h
  cases hcase : s.orderCase o <;> rw [hcase] at hspec h <;> dsimp only at hspec h
  case full =>
    rw [State.endUnstarted_cham, ChamberCtl.holds_lastEnds] at h
    exact .inl h.unqueue
  case merged =>
    obtain ⟨a, ha, hg⟩ := h
    obtain ha | ha := List.mem_append.1 ha
    · obtain rfl | ha := mem_mergeOrder ha
      · exact .inr hg
      · exact .inl ⟨a, List.mem_append_left _ ha, hg⟩
    · exact .inl ⟨a, List.mem_append_right _ ha, hg⟩
  case replaced =>
    obtain ⟨-, f, hf, -⟩ := hspec
    obtain ⟨a, ha, hg⟩ := h
    rw [State.setCham_cham, ChamberCtl.orders_some rfl] at ha
    obtain ha | ha := List.mem_append.1 ha
    · refine .inl ⟨a, List.mem_append_left _ ?_, hg⟩
      have hqueue : (s.endFlight .replaced []).cham.queue = s.cham.queue := by
        rw [s.endFlight_eq hf, State.handEnd_cham]
        rfl
      rw [← hqueue]
      exact ha
    · rw [List.mem_singleton.1 ha] at hg
      exact .inr hg
  case queued =>
    obtain ⟨a, ha, hg⟩ := h
    obtain ha | ha := List.mem_append.1 ha
    · obtain ha | ha := List.mem_append.1 ha
      · exact .inl ⟨a, List.mem_append_left _ ha, hg⟩
      · rw [List.mem_singleton.1 ha] at hg
        exact .inr hg
    · exact .inl ⟨a, List.mem_append_right _ ha, hg⟩
  case started =>
    obtain ⟨a, ha, hg⟩ := State.startNext_holds
      (s.setCham { s.cham with queue := s.cham.queue ++ [s.clampOrder o] }) hspec.2 h
    obtain ha | ha := List.mem_append.1 ha
    · exact .inl (.ofQueue ⟨a, ha, hg⟩)
    · rw [List.mem_singleton.1 ha] at hg
      exact .inr hg

theorem State.takeOrders_holds (os : List Order) (h : (s.takeOrders os).cham.Holds g) :
    s.cham.Holds g ∨ ∃ o ∈ os, o.origin = g := by
  induction os generalizing s with
  | nil => exact .inl h
  | cons o rest ih =>
    obtain h | ⟨a, ha, hg⟩ := ih _ h
    · exact (s.takeOrder_holds o h).imp_right fun hg => ⟨o, List.mem_cons_self, hg⟩
    · exact .inr ⟨a, List.mem_cons_of_mem o ha, hg⟩

variable {s}

theorem WaterMove.holds {t : State} (hm : WaterMove s t) (h : t.cham.Holds g) :
    s.cham.Holds g ∨ g = .service ∧ s.serv.mode = true := by
  cases hm with
  | records u hq hf => exact .inl ((ChamberCtl.holds_congr hq hf).1 h)
  | meter f hf =>
    refine .inl ?_
    rw [ChamberCtl.Holds, ChamberCtl.orders_some hf]
    exact h
  | endAll r => exact .inl (s.endAll_holds r h)
  | endAndGoOn r => exact .inl (s.endAndGoOn_holds r h)
  | take o ho hmode => exact (s.takeOrder_holds o h).imp_right fun hg => ⟨hg.symm.trans ho, hmode⟩
  | unqueue o c =>
    rw [State.endUnstarted_cham, ChamberCtl.holds_lastEnds] at h
    exact .inl h.unqueue

/-! ## The invariant -/

theorem State.ordersOk_iff : s.OrdersOk ↔ (s.cham.Holds .planner → s.spin.state = .balancing)
    ∧ (s.cham.Holds .service → s.serv.mode = true) := by
  constructor
  · exact fun h => ⟨fun ⟨o, ho, hg⟩ => (h o ho).1 hg, fun ⟨o, ho, hg⟩ => (h o ho).2 hg⟩
  · exact fun h o ho => ⟨fun hg => h.1 ⟨o, ho, hg⟩, fun hg => h.2 ⟨o, ho, hg⟩⟩

theorem State.OrdersOk.none (h : ∀ g, ¬ s.cham.Holds g) : s.OrdersOk :=
  State.ordersOk_iff.2 ⟨fun hg => absurd hg (h _), fun hg => absurd hg (h _)⟩

/-- The orders held are fewer, the spin state and the mode the same. -/
theorem State.OrdersOk.congr {t : State} (hs : s.OrdersOk)
    (hsub : ∀ g, t.cham.Holds g → s.cham.Holds g)
    (hstate : s.spin.state = .balancing → t.spin.state = .balancing) (hmode : t.serv.mode = s.serv.mode) :
    t.OrdersOk := by
  rw [State.ordersOk_iff] at hs ⊢
  rw [hmode]
  exact ⟨fun h => hstate (hs.1 (hsub _ h)), fun h => hs.2 (hsub _ h)⟩

/-- R135: out of service mode no order is held any more when a ramp starts or a session closes. -/
theorem State.plateauLeft_holds (hmode : s.serv.mode = false) (hcham : s.cham.Ok) (hs : s.OrdersOk) :
    ¬ s.plateauLeft.cham.Holds g := by
  unfold State.plateauLeft
  split
  next => exact (s.endAll_ok hcham _).holds_none (s.endAll_flight _) g
  next hb =>
    rw [State.ordersOk_iff] at hs
    cases g with
    | planner => exact fun h => hb (hs.1 h)
    | service => exact fun h => ne_true_of_eq_false hmode (hs.2 h)

theorem State.startRamping_ordersOk (hmode : s.serv.mode = false) (hcham : s.cham.Ok) (hs : s.OrdersOk)
    (i : Nat) (dir : Dir) (reason : StateReason) : (s.startRamping i dir reason).OrdersOk := by
  refine .none fun g => ?_
  rw [State.startRamping_cham]
  exact State.plateauLeft_holds hmode hcham hs

theorem State.startRetreating_ordersOk (hmode : s.serv.mode = false) (hcham : s.cham.Ok)
    (hs : s.OrdersOk) (i : Nat) (reason : StateReason) : (s.startRetreating i reason).OrdersOk := by
  refine .none fun g => ?_
  rw [State.startRetreating_cham]
  exact State.plateauLeft_holds hmode hcham hs

theorem SpinState.ne_idle_of_active {st : SpinState} (h : st.active = true) : st ≠ .idle :=
  SpinState.ne_of_active h rfl

theorem State.enterBalancing_ordersOk (hs : s.OrdersOk) {orders : List Order} (i : Nat) (a k : Pair)
    (horigin : ∀ o ∈ orders, o.origin = .planner) : (s.enterBalancing i a k orders).OrdersOk := by
  have hf := State.takeOrders_frame
    (s.setEst { s.est.emptied with preFill := some ⟨i, a, k, Vector.replicate 4 0⟩ }) orders
  refine State.ordersOk_iff.2 ⟨fun _ => rfl, fun h => ?_⟩
  have hmode : (s.enterBalancing i a k orders).serv.mode = s.serv.mode := congrArg Service.mode hf.serv
  rw [hmode]
  obtain h | ⟨o, ho, hg⟩ := State.takeOrders_holds _ orders h
  · exact (State.ordersOk_iff.1 hs).2 h
  · rw [horigin o ho] at hg
    exact nomatch hg

theorem State.applyTarget_ordersOk (hses : s.SessionOk) (hcham : s.cham.Ok) (hs : s.OrdersOk) (n : Nat) :
    (s.applyTarget n).OrdersOk := by
  obtain ⟨heq, -⟩ | ⟨hstate, -, heq⟩ | ⟨-, -, -, heq⟩ := s.applyTarget_cases n
  · rw [heq]
    exact hs
  · have hidle : s.spin.state ≠ .idle := by
      revert hstate
      cases s.spin.state <;> decide
    rw [heq]
    exact State.startRetreating_ordersOk (hses.normal hidle) hcham hs _ _
  · rw [heq]
    exact hs

theorem Move.ordersOk {t : State} (h : Move s t) (hses : s.SessionOk) (hcham : s.cham.Ok)
    (hs : s.OrdersOk) : t.OrdersOk := by
  have hnormal (h : s.spin.state.active = true) := hses.normal (SpinState.ne_idle_of_active h)
  cases h with
  | same h => exact hs.congr (by rw [h.cham]; exact fun _ => id) (by rw [h.spin]; exact id) h.mode
  | weighed | estimate | counted | cap | ladder | params => exact hs.congr (fun _ => id) id rfl
  | endWeighing e hphase =>
    have hstate : s.spin.state = .weighing := by
      obtain ⟨-, -, -, -, -, -, -, -, -, -, -, hweigh, -⟩ := hses
      exact hweigh.1 hphase
    exact State.startRamping_ordersOk (s := giveReport (.weighed e.2) (s.setWeigh e.1))
      (hnormal (by rw [hstate]; rfl)) hcham hs _ _ _
  | water h =>
    have hf := h.frame
    rw [State.ordersOk_iff] at hs ⊢
    rw [hf.spin, hf.serv]
    exact ⟨fun hp => (h.holds hp).elim hs.1 fun hg => (nomatch hg.1),
      fun hv => (h.holds hv).elim hs.2 And.right⟩
  | advance i d hm =>
    exact State.startRamping_ordersOk (hnormal (by rw [hm]; rfl)) hcham hs _ _ _
  | retreat reason hd =>
    exact State.startRetreating_ordersOk (hnormal (SpinState.descends_spec hd).1) hcham hs _ _
  | capRetreat hm =>
    exact State.startRetreating_ordersOk (s := s.lowerCeiling _ .retreats)
      (hnormal (by rw [hm]; rfl)) hcham hs _ _
  | shortfall htimer =>
    have hramp : s.spin.state.hasRamp = true := by
      obtain ⟨-, -, -, -, -, hrt, -⟩ := hses
      rw [← hrt, htimer]
    exact State.startRetreating_ordersOk (s := s.lowerCeiling _ .shortfall)
      (hnormal (SpinState.hasRamp_spec hramp).1) hcham hs _ _
  | arrive hramp =>
    exact hs.congr (fun _ => id) (fun hb => by rw [hb] at hramp; exact nomatch hramp) rfl
  | settled hstate =>
    exact hs.congr (fun _ => id) (fun hb => by rw [hb] at hstate; exact nomatch hstate) rfl
  | resettle reason hb hf => exact .none fun g => hcham.holds_none hf g
  | balance i a k orders hm horigin => exact State.enterBalancing_ordersOk hs i a k horigin
  | winddown c h =>
    refine .none fun g => ?_
    rw [State.enterWinddown_cham]
    exact State.plateauLeft_holds (hnormal h) hcham hs
  | abort c h =>
    refine .none fun g => ?_
    rw [State.enterAborting_cham]
    exact State.plateauLeft_holds (hses.normal fun hi => by rw [hi] at h; exact nomatch h) hcham hs
  | endSession hstate =>
    exact hs.congr (fun _ => by rw [State.endSession_cham]; exact id)
      (fun hb => by rw [hb] at hstate; exact nomatch hstate) (congrArg Service.mode s.endSession_frame.serv)
  | target n =>
    exact State.applyTarget_ordersOk (s := s.setSpin { s.spin with target := some n }) hses hcham hs n
  | start n seconds continuation hmode _ hidle =>
    exact hs.congr (fun g => (ChamberCtl.holds_congr rfl rfl).1)
      (fun hb => by rw [hb] at hidle; exact nomatch hidle) rfl
  | restart | powerOn =>
    refine .none fun g hg => ?_
    obtain ⟨o, ho, -⟩ := hg
    exact nomatch ho
  | serviceEnter hidle =>
    rw [State.ordersOk_iff] at hs ⊢
    exact ⟨hs.1, fun _ => rfl⟩
  | serviceLeave =>
    refine .none fun g => ?_
    exact ((s.setServ { s.serv with mode := false }).endAll_ok hcham .stopped).holds_none
      (State.endAll_flight _ _) g

end Water

/-- Settles O6: the records by the moves of the water, the origins by what each move leaves held. -/
theorem stepKeepsSupply : Obligations.StepKeepsSupply := by
  refine ⟨fun _ _ hs h => (step_moves h).keeps (P := fun u => u.cham.Ok) Move.chamOk hs,
    fun s t hses hcham hs h => ?_⟩
  have hall : t.SessionOk ∧ t.cham.Ok ∧ t.OrdersOk := (step_moves h).keeps
    (P := fun u => u.SessionOk ∧ u.cham.Ok ∧ u.OrdersOk)
    (fun hm ⟨hu, hc, ho⟩ => ⟨hm.sessionOk hu, hm.chamOk hc, hm.ordersOk hu hc ho⟩) ⟨hses, hcham, hs⟩
  exact hall.2.2

end Sys2Proof.Machine
end

section
/-! Profile and course (O10): a loaded profile keeps its checks, and in a session target, ceiling, dwell step, destination
and demand stay on course under every move. -/

namespace Sys2Proof.Machine

/-! ## The profile -/

section
variable {s t : State}

/-- Ladder, parameters and attempt count are the same. -/
structure SameProfile (s t : State) : Prop where
  ladder : t.spin.ladder = s.spin.ladder
  params : t.spin.params = s.spin.params
  attempts : t.spin.attempts = s.spin.attempts

theorem SameProfile.ofSpin (h : t.spin = s.spin) : SameProfile s t := ⟨by rw [h], by rw [h], by rw [h]⟩

theorem SameProfile.profileOk (h : SameProfile s t) (hs : s.ProfileOk) : t.ProfileOk := by
  unfold State.ProfileOk
  rw [h.ladder, h.params, h.attempts]
  exact hs

theorem State.startRamping_profile (s : State) (i : Nat) (dir : Dir) (reason : StateReason) :
    SameProfile s (s.startRamping i dir reason) := by
  constructor <;> rw [State.startRamping_spin]

theorem State.startRetreating_profile (s : State) (i : Nat) (reason : StateReason) :
    SameProfile s (s.startRetreating i reason) := by
  constructor <;> rw [State.startRetreating_eq, State.descending_spin]

theorem State.endedIfStopped_profile (s : State) : SameProfile s s.endedIfStopped := by
  unfold State.endedIfStopped
  split <;> exact ⟨rfl, rfl, rfl⟩

theorem State.enterWinddown_profile (s : State) (c : Cause) : SameProfile s (s.enterWinddown c) := by
  have h := (s.sessionClosed .winddown c s.spin.den s.spin.brk).endedIfStopped_profile
  rw [State.enterWinddown_eq]
  exact ⟨h.ladder, h.params, h.attempts⟩

theorem State.enterAborting_profile (s : State) (c : Cause) : SameProfile s (s.enterAborting c) := by
  have h := (s.sessionClosed .aborting c false true).endedIfStopped_profile
  rw [State.enterAborting_eq]
  exact ⟨h.ladder, h.params, h.attempts⟩

theorem State.applyTarget_profile (s : State) (n : Nat) : SameProfile s (s.applyTarget n) := by
  obtain ⟨heq, -⟩ | ⟨-, -, heq⟩ | ⟨-, -, -, heq⟩ := s.applyTarget_cases n
  · rw [heq]
    exact ⟨rfl, rfl, rfl⟩
  · rw [heq]
    exact s.startRetreating_profile n .target
  · rw [heq]
    exact ⟨rfl, rfl, rfl⟩

theorem readSteps_length_le (b : List Octet) : 5 * (readSteps b).length ≤ b.length := by
  induction b using readSteps.induct with
  | case1 s1 s0 k l1 l0 rest ih =>
    rw [readSteps]
    simp only [List.length_cons]
    omega
  | case2 b h =>
    rw [readSteps]
    · simp
    · exact h

theorem readSteps_length {n : Nat} {b : List Octet} (h : b.length = 5 * n) :
    (readSteps b).length = n := by
  induction n generalizing b with
  | zero => rw [List.length_eq_zero_iff.1 h]; rfl
  | succ n ih =>
    obtain _ | ⟨s1, _ | ⟨s0, _ | ⟨k, _ | ⟨l1, _ | ⟨l0, rest⟩⟩⟩⟩⟩ := b
    case cons.cons.cons.cons.cons =>
      rw [readSteps, List.length_cons, ih]
      simp only [List.length_cons] at h
      omega
    all_goals
      simp only [List.length_cons, List.length_nil] at h
      omega

/-- R91: a ladder in range has the steps its count octet says, each in range. -/
theorem bodyLadder_range {b : List Octet} (hlen : RequestKind.loadLadder.lengthOk b = true)
    (h : ladderInRange b = true) : 2 ≤ (bodyLadder b).length ∧ (bodyLadder b).length ≤ 12
      ∧ ∀ a ∈ bodyLadder b, 50 ≤ a.speed ∧ a.speed ≤ 1200 ∧ 20 ≤ a.limit ∧ a.limit ≤ 1000 := by
  simp only [ladderInRange, Bool.and_eq_true, decide_eq_true_eq, List.all_eq_true] at h
  simp only [RequestKind.lengthOk, Bool.and_eq_true, decide_eq_true_eq] at hlen
  have hcount : (readSteps (b.drop 1)).length = b8 b 0 :=
    readSteps_length (by rw [List.length_drop]; omega)
  rw [bodyLadder, List.length_map, hcount]
  refine ⟨h.1.1, h.1.2, fun a ha => ?_⟩
  obtain ⟨r, hr, rfl⟩ := List.mem_map.1 ha
  have hrange := h.2 r hr
  simp only [RawStep.inRange, Bool.and_eq_true, decide_eq_true_eq] at hrange
  exact ⟨hrange.1.1.1.1, hrange.1.1.1.2, hrange.1.2, hrange.2⟩

theorem Move.profileOk (h : Move s t) (hs : s.ProfileOk) : t.ProfileOk := by
  cases h with
  | same h => exact (SameProfile.ofSpin h.spin).profileOk hs
  | weighed | estimate | arrive | settled | resettle | cap | endSession | serviceEnter => exact hs
  | endWeighing e =>
    exact (State.startRamping_profile (giveReport (.weighed e.2) (s.setWeigh e.1)) _ _ _).profileOk hs
  | water h => exact (SameProfile.ofSpin h.frame.spin).profileOk hs
  | counted _ _ attempts _ _ h =>
    obtain ⟨hl, hp, ha⟩ := hs
    refine ⟨hl, hp, fun p hmem => ?_⟩
    obtain rfl | ⟨rfl, hlt⟩ := h
    · exact ha p hmem
    · have hpar : s.spin.par = p := by
        have hsome : s.spin.params = some p := hmem
        rw [Spin.par, hsome]
        rfl
      rw [hpar] at hlt
      exact hlt
  | advance => exact (State.startRamping_profile _ _ _ _).profileOk hs
  | retreat => exact (State.startRetreating_profile _ _ _).profileOk hs
  | capRetreat =>
    exact (State.startRetreating_profile (s.lowerCeiling _ .retreats) _ _).profileOk hs
  | shortfall =>
    exact (State.startRetreating_profile (s.lowerCeiling _ .shortfall) _ _).profileOk hs
  | balance i a k orders =>
    have hspin := s.enterBalancing_spin i a k orders
    exact (SameProfile.mk (by rw [hspin]) (by rw [hspin]) (by rw [hspin])).profileOk hs
  | winddown c => exact (s.enterWinddown_profile c).profileOk hs
  | abort c => exact (s.enterAborting_profile c).profileOk hs
  | target n =>
    exact (State.applyTarget_profile (s.setSpin { s.spin with target := some n }) n).profileOk hs
  | start n seconds continuation =>
    obtain ⟨hl, hp, ha⟩ := hs
    refine ⟨hl, hp, fun p hmem => ?_⟩
    show (if continuation = true then s.spin.attempts else 0) ≤ p.maxAttempts
    split
    · exact ha p hmem
    · exact Nat.zero_le _
  | ladder b hrange hlen hcons =>
    obtain ⟨-, hp, ha⟩ := hs
    exact ⟨.inr ⟨hcons, bodyLadder_range hlen hrange⟩, hp, ha⟩
  | params p hrange hcons =>
    obtain ⟨hl, -, -⟩ := hs
    refine ⟨hl, fun q hq => ?_, fun q hq => ?_⟩ <;> obtain rfl := Option.some.inj hq
    · exact ⟨hrange, hcons⟩
    · exact Nat.min_le_right _ _
  | restart =>
    obtain ⟨hl, hp, -⟩ := hs
    exact ⟨hl, hp, fun _ _ => Nat.zero_le _⟩
  | powerOn => exact ⟨.inl rfl, fun _ h => (nomatch h), fun _ h => nomatch h⟩
  | serviceLeave =>
    have hf : WaterFrame (s.setServ { s.serv with mode := false }) s.leaveService :=
      State.endAll_frame _ _
    exact (SameProfile.ofSpin hf.spin).profileOk hs

end

/-! ## The course of a session -/

section Course
variable {p q : Spin}

/-- What every state of a session has: its profile, and a target, ceiling and dwell step that are DWELL steps. -/
structure Spin.Based (p : Spin) : Prop where
  ladder : p.ladder ≠ []
  params : p.params.isSome = true
  weigh : p.par.weighHigh < p.speedOf 0
  zero : p.isDwell 0 = true
  target : p.target.any p.isDwell = true
  ceiling : p.ceiling.any p.isDwell = true
  dwell : ∀ d ∈ p.dwell, p.isDwell d = true

theorem Spin.Based.marks (h : p.Based) : ∃ t c, p.target = some t ∧ p.ceiling = some c
    ∧ p.goal.getD 0 = min t c ∧ p.isDwell t = true ∧ p.isDwell c = true := by
  obtain ⟨t, ht, hdt⟩ := (Option.any_eq_true _ _).1 h.target
  obtain ⟨c, hc, hdc⟩ := (Option.any_eq_true _ _).1 h.ceiling
  refine ⟨t, c, ht, hc, ?_, hdt, hdc⟩
  rw [Spin.goal, ht, hc]
  rfl

/-- The step of a ramp in flight: the basket moves to it, and it lies within the goal. -/
structure Spin.MovesTo (p : Spin) (d : Nat) : Prop where
  dest : p.dest = some d
  isDwell : p.isDwell d = true
  goal : d ≤ p.goal.getD 0
  demand : p.demand = p.speedOf d

/-- The step held. -/
structure Spin.HoldsAt (p : Spin) (d : Nat) : Prop where
  dwell : p.dwell = some d
  goal : d ≤ p.goal.getD 0
  demand : p.demand = p.speedOf d

theorem Spin.CourseOk.base (h : p.CourseOk) (ha : p.state.active = true) : p.Based := by
  obtain ⟨hl, hp, hw, hz, ht, hc, hd, -⟩ := h ha
  exact ⟨hl, hp, hw, hz, ht, hc, hd⟩

theorem Spin.CourseOk.ramp (h : p.CourseOk) (hr : p.state.hasRamp = true) : ∃ d, p.MovesTo d := by
  obtain ⟨-, -, -, -, -, -, -, -, hramp, -⟩ := h (SpinState.hasRamp_spec hr).1
  obtain ⟨hdest, hgoal, hdemand⟩ := hramp hr
  obtain ⟨d, hd, hdd⟩ := (Option.any_eq_true _ _).1 hdest
  rw [hd] at hgoal hdemand
  exact ⟨d, hd, hdd, hgoal, hdemand⟩

theorem Spin.CourseOk.plateau (h : p.CourseOk) (hp : p.state.plateau = true) : ∃ d, p.HoldsAt d := by
  have hcases : p.state = .settling ∨ p.state = .measuring ∨ p.state = .balancing := by
    revert hp
    cases p.state <;> decide
  obtain ⟨-, -, -, -, -, -, -, -, -, -, -, hplateau, -⟩ := h (by obtain h | h | h := hcases <;> rw [h] <;> rfl)
  obtain ⟨hsome, hgoal, hdemand⟩ := hplateau hcases
  obtain ⟨d, hd⟩ := Option.isSome_iff_exists.1 hsome
  rw [hd] at hgoal hdemand
  exact ⟨d, hd, hgoal, hdemand⟩

/-- While ramping without a plateau behind it the basket climbs to step 0; otherwise not below that plateau. -/
theorem Spin.CourseOk.ramping (h : p.CourseOk) (hr : p.state = .ramping) :
    (p.dwell = none → p.dest = some 0) ∧ ∀ d ∈ p.dwell, d ≤ p.dest.getD 0 := by
  obtain ⟨-, -, -, -, -, -, -, -, -, hnone, hle, -⟩ := h (by rw [hr]; rfl)
  exact ⟨hnone hr, hle hr⟩

theorem Spin.courseOk_of_inactive (h : p.state.active = false) : p.CourseOk :=
  fun ha => absurd ha (ne_true_of_eq_false h)

theorem Spin.courseOk_of_ramping {d : Nat} (hb : p.Based) (hs : p.state = .ramping) (hm : p.MovesTo d)
    (hnone : p.dwell = none → d = 0) (hle : ∀ c ∈ p.dwell, c ≤ d) : p.CourseOk := by
  intro _
  rw [hs, hm.dest]
  exact ⟨hb.ladder, hb.params, hb.weigh, hb.zero, hb.target, hb.ceiling, hb.dwell, fun h => (nomatch h),
    fun _ => ⟨hm.isDwell, hm.goal, hm.demand⟩, fun _ h => by rw [hnone h], fun _ => hle, by simp,
    fun h => nomatch h⟩

theorem Spin.courseOk_of_retreating {d : Nat} (hb : p.Based) (hs : p.state = .retreating)
    (hm : p.MovesTo d) (hsome : p.dwell.isSome = true) : p.CourseOk := by
  intro _
  rw [hs, hm.dest]
  exact ⟨hb.ladder, hb.params, hb.weigh, hb.zero, hb.target, hb.ceiling, hb.dwell, fun h => (nomatch h),
    fun _ => ⟨hm.isDwell, hm.goal, hm.demand⟩, fun h => (nomatch h), fun h => (nomatch h), by simp,
    fun _ => hsome⟩

theorem Spin.courseOk_of_plateau {d : Nat} (hb : p.Based) (hs : p.state.plateau = true)
    (hm : p.HoldsAt d) : p.CourseOk := by
  intro _
  have hne (st : SpinState) (h : st.plateau = false) : p.state ≠ st := fun he => by
    rw [he, h] at hs
    exact nomatch hs
  have hramp : ¬ p.state.hasRamp = true := by
    revert hs
    cases p.state <;> decide
  rw [hm.dwell]
  exact ⟨hb.ladder, hb.params, hb.weigh, hb.zero, hb.target, hb.ceiling, hm.dwell ▸ hb.dwell,
    fun h => absurd h (hne _ rfl), fun h => absurd h hramp, fun h => absurd h (hne _ rfl),
    fun h => absurd h (hne _ rfl), fun _ => ⟨rfl, hm.goal, hm.demand⟩, fun h => absurd h (hne _ rfl)⟩

end Course

/-! ## Steps of the ladder -/

section Steps
variable {p : Spin}

theorem Spin.dwellBelow_le (p : Spin) (i : Nat) : p.dwellBelow i ≤ i := by
  induction i with
  | zero => exact Nat.le_refl _
  | succ i ih =>
    rw [Spin.dwellBelow]
    split
    · exact Nat.le_succ _
    · exact Nat.le_trans ih (Nat.le_succ _)

theorem Spin.isDwell_dwellBelow (h : p.isDwell 0 = true) (i : Nat) :
    p.isDwell (p.dwellBelow i) = true := by
  induction i with
  | zero => exact h
  | succ i ih =>
    rw [Spin.dwellBelow]
    split
    next hi => exact hi
    next => exact ih

theorem Spin.isDwell_dwellFrom {i n d : Nat} (h : p.dwellFrom i n = some d) : p.isDwell d = true := by
  induction n generalizing i with
  | zero => cases h
  | succ n ih =>
    rw [Spin.dwellFrom] at h
    split at h
    next hi => exact Option.some.inj h ▸ hi
    next => exact ih h

theorem Spin.isDwell_nextDwell {i goal : Nat} (h : p.isDwell goal = true) :
    p.isDwell (p.nextDwell i goal) = true := by
  unfold Spin.nextDwell
  cases hd : p.dwellFrom (i + 1) (goal - i) with
  | none => exact h
  | some d => exact Spin.isDwell_dwellFrom hd

theorem ladderConsistent_ends {l : List LadderStep} (h : ladderConsistent l = true) :
    (∃ a ∈ l.head?, a.kind = .dwell) ∧ (∃ a ∈ l.getLast?, a.kind = .dwell) := by
  simp only [ladderConsistent, Bool.and_eq_true, endsDwell, Option.any_eq_true, decide_eq_true_eq] at h
  exact h.1.2

theorem Spin.isDwell_ends (h : ladderConsistent p.ladder = true) :
    p.isDwell 0 = true ∧ p.isDwell p.topStep = true := by
  obtain ⟨⟨a, ha, hka⟩, b, hb, hkb⟩ := ladderConsistent_ends h
  rw [List.head?_eq_getElem?] at ha
  rw [List.getLast?_eq_getElem?] at hb
  rw [Option.mem_def] at ha hb
  constructor
  · rw [Spin.isDwell, ha]
    exact decide_eq_true hka
  · rw [Spin.isDwell, Spin.topStep, hb]
    exact decide_eq_true hkb

end Steps

/-! ## Every move keeps the course -/

section Course
variable {s t : State}

/-- The same ladder, parameters, marks and dwell step: still a session's base. -/
theorem Spin.Based.congr {p q : Spin} (h : p.Based) (hl : q.ladder = p.ladder) (hp : q.params = p.params)
    (ht : q.target = p.target) (hc : q.ceiling = p.ceiling) (hd : q.dwell = p.dwell) : q.Based := by
  have hpar : q.par = p.par := by rw [Spin.par, Spin.par, hp]
  constructor
  · rw [hl]
    exact h.ladder
  · rw [hp]
    exact h.params
  · rw [hpar, Spin.speedOf_congr hl]
    exact h.weigh
  · rw [Spin.isDwell_congr hl]
    exact h.zero
  · rw [ht, Spin.isDwell_congr hl]
    exact h.target
  · rw [hc, Spin.isDwell_congr hl]
    exact h.ceiling
  · rw [hd, Spin.isDwell_congr hl]
    exact h.dwell

theorem Spin.goal_congr {p q : Spin} (ht : q.target = p.target) (hc : q.ceiling = p.ceiling) :
    q.goal = p.goal := by
  rw [Spin.goal, Spin.goal, ht, hc]

/-- A climb to a DWELL step within the goal, from the dwell step held if there is one. -/
theorem State.startRamping_courseOk (hb : s.spin.Based) {d : Nat} (hd : s.spin.isDwell d = true)
    (hgoal : d ≤ s.spin.goal.getD 0) (hnone : s.spin.dwell = none → d = 0)
    (hle : ∀ c ∈ s.spin.dwell, c ≤ d) (dir : Dir) (reason : StateReason) :
    (s.startRamping d dir reason).spin.CourseOk := by
  rw [State.startRamping_spin]
  exact Spin.courseOk_of_ramping (d := d) (hb.congr rfl rfl rfl rfl rfl) rfl ⟨rfl, hd, hgoal, rfl⟩ hnone hle

/-- A descent to a DWELL step within the goal. -/
theorem State.startRetreating_courseOk (hb : s.spin.Based) {d : Nat} (hd : s.spin.isDwell d = true)
    (hgoal : d ≤ s.spin.goal.getD 0) (hsome : s.spin.dwell.isSome = true) (reason : StateReason) :
    (s.startRetreating d reason).spin.CourseOk := by
  rw [State.startRetreating_eq, State.descending_spin]
  exact Spin.courseOk_of_retreating (d := d) (hb.congr rfl rfl rfl rfl rfl) rfl ⟨rfl, hd, hgoal, rfl⟩ hsome

theorem State.startRetreating_dwellBelow_courseOk (hb : s.spin.Based) {i : Nat}
    (hgoal : i ≤ s.spin.goal.getD 0) (hsome : s.spin.dwell.isSome = true) (reason : StateReason) :
    (s.startRetreating (s.spin.dwellBelow i) reason).spin.CourseOk :=
  State.startRetreating_courseOk hb (Spin.isDwell_dwellBelow hb.zero i)
    (Nat.le_trans (s.spin.dwellBelow_le i) hgoal) hsome reason

/-- R98: the ceiling lowered to a DWELL step. -/
theorem Spin.Based.capTo (h : s.spin.Based) {n : Nat} (hn : s.spin.isDwell n = true) :
    (s.spin.capTo n).Based where
  ladder := h.ladder
  params := h.params
  weigh := h.weigh
  zero := h.zero
  target := h.target
  ceiling := hn
  dwell := h.dwell

theorem Spin.Based.capTo_goal {p : Spin} (h : p.Based) {n d : Nat} (hd : d ≤ n)
    (hgoal : d ≤ p.goal.getD 0) : d ≤ (p.capTo n).goal.getD 0 := by
  obtain ⟨t, c, ht, hc, heq, -, -⟩ := h.marks
  have hcap : (p.capTo n).goal = some (min t n) := by
    rw [Spin.goal]
    show (match p.target, some n with
      | some t, some c => some (min t c)
      | _, _ => none) = _
    rw [ht]
  rw [hcap]
  rw [heq] at hgoal
  exact Nat.le_min_of_le_of_le (Nat.le_trans hgoal (Nat.min_le_left _ _)) hd

/-- R126, R106: the ceiling comes down to the dwell step below, and the basket with it. -/
theorem State.capRetreat_courseOk (hb : s.spin.Based) {i : Nat} (hgoal : i ≤ s.spin.goal.getD 0)
    (hsome : s.spin.dwell.isSome = true) (c : CeilingCause) (reason : StateReason) :
    ((s.lowerCeiling (s.spin.dwellBelow i) c).startRetreating (s.spin.dwellBelow i) reason).spin.CourseOk := by
  have hd := Spin.isDwell_dwellBelow hb.zero i
  exact State.startRetreating_courseOk (s := s.lowerCeiling (s.spin.dwellBelow i) c) (hb.capTo hd) hd
    (hb.capTo_goal (Nat.le_refl _) (Nat.le_trans (s.spin.dwellBelow_le i) hgoal)) hsome reason

theorem State.endedIfStopped_courseOk (h : s.spin.state.active = false) : s.endedIfStopped.spin.CourseOk := by
  unfold State.endedIfStopped
  split
  · exact Spin.courseOk_of_inactive rfl
  · exact Spin.courseOk_of_inactive h

theorem State.enterWinddown_courseOk (c : Cause) : (s.enterWinddown c).spin.CourseOk := by
  rw [State.enterWinddown_eq]
  exact State.endedIfStopped_courseOk rfl

theorem State.enterAborting_courseOk (c : Cause) : (s.enterAborting c).spin.CourseOk := by
  rw [State.enterAborting_eq]
  exact State.endedIfStopped_courseOk rfl

end Course

end Sys2Proof.Machine
end

section
/-! The course of a session under every move (O10), and the demand within the goal (O11). -/

namespace Sys2Proof.Machine

section
variable {s t : State}

theorem Spin.courseOk_of_weighing {p : Spin} (hb : p.Based) (hs : p.state = .weighing)
    (hd : p.dwell = none) (hdemand : p.demand = p.par.weighHigh) : p.CourseOk := by
  intro _
  rw [hs]
  exact ⟨hb.ladder, hb.params, hb.weigh, hb.zero, hb.target, hb.ceiling, hb.dwell,
    fun _ => ⟨hd, hdemand⟩, fun h => (nomatch h), fun h => (nomatch h), fun h => (nomatch h), by simp,
    fun h => (nomatch h)⟩

theorem Spin.CourseOk.weighing {p : Spin} (h : p.CourseOk) (hs : p.state = .weighing) :
    p.dwell = none ∧ p.demand = p.par.weighHigh := by
  obtain ⟨-, -, -, -, -, -, -, hw, -⟩ := h (by rw [hs]; rfl)
  exact hw hs

theorem Spin.CourseOk.retreating {p : Spin} (h : p.CourseOk) (hs : p.state = .retreating) :
    p.dwell.isSome = true := by
  obtain ⟨-, -, -, -, -, -, -, -, -, -, -, -, hr⟩ := h (by rw [hs]; rfl)
  exact hr hs

/-- A climb to a step above 0 lies within the goal and left a plateau behind. -/
theorem Spin.CourseOk.ramping_high {p : Spin} (h : p.CourseOk) (hs : p.state = .ramping)
    (hpos : 0 < p.dest.getD 0) : p.dest.getD 0 ≤ p.goal.getD 0 ∧ p.dwell.isSome = true := by
  obtain ⟨d, hm⟩ := h.ramp (by rw [hs]; rfl)
  refine ⟨by rw [hm.dest]; exact hm.goal, Option.isSome_iff_ne_none.2 fun hnone => ?_⟩
  rw [(h.ramping hs).1 hnone] at hpos
  exact Nat.lt_irrefl _ hpos

theorem Spin.below_true (p : Spin) (n : Nat) : p.below n = true ↔ ∃ c ∈ p.dwell, n < c := by
  unfold Spin.below
  cases p.dwell <;> simp

theorem Spin.below_false (p : Spin) (n : Nat) : p.below n = false ↔ ∀ c ∈ p.dwell, c ≤ n := by
  unfold Spin.below
  cases p.dwell <;> simp

/-- The dwell step of a state with a ramp upward or a plateau lies within the goal. -/
theorem Spin.CourseOk.dwell_le {p : Spin} (h : p.CourseOk)
    (hs : p.state = .ramping ∨ p.state.plateau = true) : ∀ c ∈ p.dwell, c ≤ p.goal.getD 0 := by
  intro c hc
  obtain hr | hp := hs
  · obtain ⟨d, hm⟩ := h.ramp (by rw [hr]; rfl)
    have hle := (h.ramping hr).2 c hc
    rw [hm.dest] at hle
    exact Nat.le_trans hle hm.goal
  · obtain ⟨d, hm⟩ := h.plateau hp
    rw [hm.dwell] at hc
    exact Option.some.inj hc ▸ hm.goal

/-- R128: a new target that is a DWELL step keeps the course: nothing moves, the basket descends to it, or a ramp above it
is redirected. -/
theorem State.applyTarget_courseOk (hs : s.spin.CourseOk) (ha : s.spin.state.active = true) {n : Nat}
    (hn : s.spin.isDwell n = true) (hret : s.spin.state ≠ .retreating) :
    ((s.setSpin { s.spin with target := some n }).applyTarget n).spin.CourseOk := by
  have hb := hs.base ha
  obtain ⟨t0, c, ht0, hc, hgoal0, -, -⟩ := hb.marks
  have hgoal : ({ s.spin with target := some n } : Spin).goal.getD 0 = min n c := by
    rw [Spin.goal, hc]
    rfl
  have hb1 : ({ s.spin with target := some n } : Spin).Based :=
    ⟨hb.ladder, hb.params, hb.weigh, hb.zero, hn, hb.ceiling, hb.dwell⟩
  have hceil {d : Nat} (hd : d ≤ s.spin.goal.getD 0) : d ≤ c :=
    Nat.le_trans hd (Nat.le_trans (Nat.le_of_eq hgoal0) (Nat.min_le_right _ _))
  obtain ⟨heq, hdest, hbelow⟩ | ⟨hstate, hbelow, heq⟩ | ⟨hstate, hlt, hbelow, heq⟩ :=
    (s.setSpin { s.spin with target := some n }).applyTarget_cases n <;> rw [heq]
  · have hcases : s.spin.state = .weighing ∨ s.spin.state = .ramping ∨ s.spin.state.plateau = true := by
      revert ha hret
      cases s.spin.state <;> decide
    obtain hst | hst | hst := hcases
    · obtain ⟨hdwell, hdemand⟩ := hs.weighing hst
      exact Spin.courseOk_of_weighing hb1 hst hdwell hdemand
    · obtain ⟨d, hm⟩ := hs.ramp (by rw [hst]; rfl)
      obtain ⟨hnone, hle⟩ := hs.ramping hst
      have hdn : s.spin.dest.getD 0 ≤ n := hdest hst
      rw [hm.dest] at hnone hle hdn
      exact Spin.courseOk_of_ramping (d := d) hb1 hst
        ⟨hm.dest, hm.isDwell, hgoal ▸ Nat.le_min_of_le_of_le hdn (hceil hm.goal), hm.demand⟩
        (fun h => Option.some.inj (hnone h)) hle
    · obtain ⟨d, hm⟩ := hs.plateau hst
      have hdn : d ≤ n := (Spin.below_false _ n).1 (hbelow hst) d hm.dwell
      exact Spin.courseOk_of_plateau (d := d) hb1 hst
        ⟨hm.dwell, hgoal ▸ Nat.le_min_of_le_of_le hdn (hceil hm.goal), hm.demand⟩
  · obtain ⟨d, hd, hnd⟩ := (Spin.below_true _ n).1 hbelow
    have hfrom : s.spin.state = .ramping ∨ s.spin.state.plateau = true := by
      change (s.spin.state.descends || s.spin.state == .settling) = true at hstate
      revert hstate
      cases s.spin.state <;> decide
    have hdle := hs.dwell_le hfrom d hd
    exact State.startRetreating_courseOk (s := s.setSpin { s.spin with target := some n }) hb1 hn
      (hgoal ▸ Nat.le_min_of_le_of_le (Nat.le_refl _) (Nat.le_trans (Nat.le_of_lt hnd) (hceil hdle))) (Option.isSome_iff_exists.2 ⟨d, hd⟩) _
  · obtain ⟨d, hm⟩ := hs.ramp (by rw [show s.spin.state = .ramping from hstate]; rfl)
    obtain ⟨hnone, -⟩ := hs.ramping hstate
    have hnd : n < s.spin.dest.getD 0 := hlt
    rw [hm.dest] at hnone hnd
    refine Spin.courseOk_of_ramping (d := n) (hb1.congr rfl rfl rfl rfl rfl) hstate
      ⟨rfl, hn, hgoal ▸ Nat.le_min_of_le_of_le (Nat.le_refl _) (Nat.le_trans (Nat.le_of_lt hnd) (hceil hm.goal)), rfl⟩ (fun h => ?_)
      ((Spin.below_false _ n).1 hbelow)
    rw [Option.some.inj (hnone h)] at hnd
    exact absurd hnd (Nat.not_lt_zero _)

/-- R115: what lets a Start Spin pass its checks is what a session's course rests on. -/
theorem State.begin_based (hp : s.ProfileOk) {n seconds : Nat} {continuation : Bool}
    (hbad : s.spin.badStart n = false) (hcomplete : s.profileComplete = true) :
    (s.spin.begin s.time n seconds continuation).Based := by
  simp only [State.profileComplete, Bool.and_eq_true, Bool.not_eq_true', List.isEmpty_eq_false_iff,
    Spin.paramsLoaded] at hcomplete
  obtain ⟨⟨hladder, hparams⟩, -⟩ := hcomplete
  obtain ⟨v, hv⟩ := Option.isSome_iff_exists.1 hparams
  have hpar : s.spin.par = v := by
    rw [Spin.par, hv]
    rfl
  simp only [Spin.badStart, hv, Spin.badTarget, List.isEmpty_eq_false_iff.2 hladder, Bool.not_false,
    Bool.true_and, Bool.or_eq_false_iff, decide_eq_false_iff_not, Nat.not_le, Bool.not_eq_false'] at hbad
  obtain ⟨⟨hweigh, -⟩, htarget⟩ := hbad
  obtain ⟨hl | ⟨hcons, -⟩, -⟩ := hp
  · exact absurd hl hladder
  obtain ⟨hzero, htop⟩ := Spin.isDwell_ends hcons
  exact ⟨hladder, hparams, by rw [← hpar] at hweigh; exact hweigh, hzero, htarget, htop, fun d hd => nomatch hd⟩

theorem Move.courseOk (h : Move s t) (hses : s.SessionOk) (hp : s.ProfileOk) (hs : s.spin.CourseOk) :
    t.spin.CourseOk := by
  have hinactive (hi : s.spin.state = .idle) : s.spin.state.active = false := by
    rw [hi]
    rfl
  cases h with
  | same h => rwa [h.spin]
  | weighed | estimate | counted | serviceEnter => exact hs
  | endWeighing e hphase =>
    have hst : s.spin.state = .weighing := by
      obtain ⟨-, -, -, -, -, -, -, -, -, -, -, hweigh, -⟩ := hses
      exact hweigh.1 hphase
    have hb := hs.base (by rw [hst]; rfl)
    exact State.startRamping_courseOk (s := giveReport (.weighed e.2) (s.setWeigh e.1)) hb hb.zero
      (Nat.zero_le _) (fun _ => rfl)
      (fun c hc => by rw [show (giveReport (.weighed e.2) (s.setWeigh e.1)).spin.dwell = none from
        (hs.weighing hst).1] at hc; exact nomatch hc) _ _
  | water h =>
    rw [h.frame.spin]
    exact hs
  | advance i d hm hi hlt hd hper =>
    have ha : s.spin.state.active = true := by rw [hm]; rfl
    have hb := hs.base ha
    obtain ⟨c, hc⟩ := hs.plateau (by rw [hm]; rfl)
    have hic : i = c := by rw [← hi, hc.dwell]; rfl
    obtain ⟨t0, c0, -, -, hgoal, hdt, hdc⟩ := hb.marks
    have hdg : s.spin.isDwell (s.spin.goal.getD 0) = true := by
      rw [hgoal]
      obtain h | h := Nat.le_total t0 c0
      · rwa [Nat.min_eq_left h]
      · rwa [Nat.min_eq_right h]
    obtain ⟨hid, hdle⟩ := s.spin.nextDwell_mem hlt
    rw [← hd] at hid hdle
    refine State.startRamping_courseOk hb (hd ▸ Spin.isDwell_nextDwell hdg) hdle (fun h => ?_) (fun e he => ?_) _ _
    · rw [hc.dwell] at h
      exact nomatch h
    · rw [hc.dwell] at he
      rw [← Option.some.inj he, ← hic]
      exact Nat.le_of_lt hid
  | retreat reason hd hpos =>
    have hb := hs.base (SpinState.descends_spec hd).1
    have hcases : s.spin.state = .ramping ∨ s.spin.state ≠ .ramping ∧ s.spin.state.plateau = true := by
      revert hd
      cases s.spin.state <;> decide
    obtain hst | ⟨hst, hplateau⟩ := hcases
    · rw [Spin.height, if_pos hst] at hpos ⊢
      obtain ⟨hle, hsome⟩ := hs.ramping_high hst hpos
      exact State.startRetreating_dwellBelow_courseOk hb hle hsome _
    · obtain ⟨c, hc⟩ := hs.plateau hplateau
      rw [Spin.height, if_neg hst, hc.dwell]
      exact State.startRetreating_dwellBelow_courseOk hb hc.goal (by rw [hc.dwell]; rfl) _
  | capRetreat hm hpos =>
    obtain ⟨c, hc⟩ := hs.plateau (by rw [hm]; rfl)
    refine State.capRetreat_courseOk (hs.base (by rw [hm]; rfl)) ?_ (by rw [hc.dwell]; rfl) _ _
    rw [hc.dwell]
    exact hc.goal
  | shortfall htimer hup hpos =>
    have hst : s.spin.state = .ramping := by
      obtain ⟨-, -, -, -, -, hrt, hdown, -⟩ := hses
      rw [htimer] at hrt
      have hne : s.spin.state ≠ .retreating := fun he => by
        rw [hdown he] at hup
        exact nomatch hup
      revert hrt hne
      cases s.spin.state <;> decide
    obtain ⟨hle, hsome⟩ := hs.ramping_high hst hpos
    exact State.capRetreat_courseOk (hs.base (by rw [hst]; rfl)) hle hsome _ _
  | arrive hramp =>
    obtain ⟨ha, -⟩ := SpinState.hasRamp_spec hramp
    have hb := hs.base ha
    obtain ⟨d, hm⟩ := hs.ramp hramp
    rw [hm.dest]
    exact Spin.courseOk_of_plateau (d := d)
      ⟨hb.ladder, hb.params, hb.weigh, hb.zero, hb.target, hb.ceiling,
        fun e he => Option.some.inj he ▸ hm.isDwell⟩ rfl ⟨rfl, hm.goal, hm.demand⟩
  | settled hst =>
    obtain ⟨c, hc⟩ := hs.plateau (by rw [hst]; rfl)
    exact Spin.courseOk_of_plateau (d := c) ((hs.base (by rw [hst]; rfl)).congr rfl rfl rfl rfl rfl) rfl
      ⟨hc.dwell, hc.goal, hc.demand⟩
  | resettle reason hst =>
    obtain ⟨c, hc⟩ := hs.plateau (by rw [hst]; rfl)
    exact Spin.courseOk_of_plateau (d := c) ((hs.base (by rw [hst]; rfl)).congr rfl rfl rfl rfl rfl) rfl
      ⟨hc.dwell, hc.goal, hc.demand⟩
  | balance i a k orders hst =>
    obtain ⟨c, hc⟩ := hs.plateau (by rw [hst]; rfl)
    rw [State.enterBalancing_spin]
    exact Spin.courseOk_of_plateau (d := c) ((hs.base (by rw [hst]; rfl)).congr rfl rfl rfl rfl rfl) rfl
      ⟨hc.dwell, hc.goal, hc.demand⟩
  | cap hst =>
    have hb := hs.base (by rw [hst]; rfl)
    obtain ⟨c, hc⟩ := hs.plateau (by rw [hst]; rfl)
    rw [hc.dwell]
    have hcap := hb.capTo (hb.dwell c hc.dwell)
    refine Spin.courseOk_of_plateau (p := s.spin.capTo c) (d := c) hcap (by show s.spin.state.plateau = true; rw [hst]; rfl)
      ⟨hc.dwell, hb.capTo_goal (Nat.le_refl _) hc.goal, ?_⟩
    show min s.spin.demand (s.spin.speedOf c) = s.spin.speedOf c
    rw [hc.demand, Nat.min_self]
  | winddown c => exact State.enterWinddown_courseOk c
  | abort c => exact State.enterAborting_courseOk c
  | endSession => exact Spin.courseOk_of_inactive (by rw [State.endSession_state]; rfl)
  | restart | powerOn => exact Spin.courseOk_of_inactive rfl
  | target n hbad htakes =>
    have hspec : s.spin.state.active = true ∧ s.spin.state ≠ .retreating := by
      revert htakes
      cases s.spin.state <;> decide
    have hb := hs.base hspec.1
    have hn : s.spin.isDwell n = true := by
      rw [Spin.badTarget, List.isEmpty_eq_false_iff.2 hb.ladder] at hbad
      simpa using hbad
    exact State.applyTarget_courseOk hs hspec.1 hn hspec.2
  | start n seconds continuation hmode hbad hidle hcomplete =>
    exact Spin.courseOk_of_weighing ((State.begin_based hp (seconds := seconds)
      (continuation := continuation) hbad hcomplete).congr rfl rfl rfl rfl rfl) rfl rfl rfl
  | ladder b _ _ _ hi => exact Spin.courseOk_of_inactive (hinactive hi)
  | params p _ _ hi => exact Spin.courseOk_of_inactive (hinactive hi)
  | serviceLeave =>
    have hf : WaterFrame (s.setServ { s.serv with mode := false }) s.leaveService :=
      State.endAll_frame _ _
    rw [hf.spin]
    exact hs

end

/-- Settles O10: the profile by itself, the course with the session record. -/
theorem stepKeepsProfileAndCourse : Obligations.StepKeepsProfileAndCourse := by
  refine ⟨fun _ _ hs h => (step_moves h).keeps Move.profileOk hs, fun s t hses hp hs h => ?_⟩
  have hall : t.SessionOk ∧ t.ProfileOk ∧ t.spin.CourseOk := (step_moves h).keeps
    (P := fun u => u.SessionOk ∧ u.ProfileOk ∧ u.spin.CourseOk)
    (fun hm ⟨hu, hpu, hcu⟩ => ⟨hm.sessionOk hu, hm.profileOk hpu, hm.courseOk hu hpu hcu⟩) ⟨hses, hp, hs⟩
  exact hall.2.2

/-! ## The demand within the goal -/

theorem speedsRise_iff (l : List LadderStep) :
    speedsRise l = true ↔ l.Pairwise (fun a b => a.speed < b.speed) := by
  induction l using speedsRise.induct with
  | case1 a b rest ih =>
    rw [speedsRise, Bool.and_eq_true, decide_eq_true_eq, ih, List.pairwise_cons (a := a)]
    refine ⟨fun ⟨hab, hrest⟩ => ⟨fun x hx => ?_, hrest⟩, fun ⟨hall, hrest⟩ => ⟨hall b List.mem_cons_self, hrest⟩⟩
    obtain rfl | hx := List.mem_cons.1 hx
    · exact hab
    · exact Nat.lt_trans hab ((List.pairwise_cons.1 hrest).1 x hx)
  | case2 l h =>
    obtain _ | ⟨a, _ | ⟨b, rest⟩⟩ := l
    · simp [speedsRise]
    · simp [speedsRise]
    · exact absurd rfl (h a b rest)

theorem Spin.isDwell_lt {p : Spin} {i : Nat} (h : p.isDwell i = true) : i < p.ladder.length := by
  refine Classical.byContradiction fun hlt => ?_
  rw [Spin.isDwell, List.getElem?_eq_none (Nat.le_of_not_lt hlt)] at h
  exact nomatch h

theorem Spin.speedOf_eq {p : Spin} {i : Nat} (h : i < p.ladder.length) : p.speedOf i = p.ladder[i].speed := by
  rw [Spin.speedOf, List.getElem?_eq_getElem h]

/-- R90: a higher step has no lower speed. -/
theorem Spin.speedOf_mono {p : Spin} (h : speedsRise p.ladder = true) {i j : Nat} (hij : i ≤ j)
    (hj : j < p.ladder.length) : p.speedOf i ≤ p.speedOf j := by
  rw [Spin.speedOf_eq (Nat.lt_of_le_of_lt hij hj), Spin.speedOf_eq hj]
  obtain rfl | hlt := Nat.eq_or_lt_of_le hij
  · exact Nat.le_refl _
  · exact Nat.le_of_lt (List.pairwise_iff_getElem.1 ((speedsRise_iff _).1 h) i j _ _ hlt)

/-- In a session the demand is weigh_high or the speed of a step that does not lie above the goal. -/
theorem Spin.CourseOk.demand {p : Spin} (h : p.CourseOk) (ha : p.state.active = true) :
    p.demand = p.par.weighHigh ∨ ∃ d, d ≤ p.goal.getD 0 ∧ p.demand = p.speedOf d := by
  have hcases : p.state = .weighing ∨ p.state.hasRamp = true ∨ p.state.plateau = true := by
    revert ha
    cases p.state <;> decide
  obtain hs | hs | hs := hcases
  · exact .inl (h.weighing hs).2
  · obtain ⟨d, hm⟩ := h.ramp hs
    exact .inr ⟨d, hm.goal, hm.demand⟩
  · obtain ⟨d, hm⟩ := h.plateau hs
    exact .inr ⟨d, hm.goal, hm.demand⟩

/-- Settles O11: the demand is weigh_high or the speed of a step that is not above the goal, and speeds rise. -/
theorem demandWithinGoal : Obligations.DemandWithinGoal := by
  intro s hses hp hs
  obtain ⟨-, -, hdemand, -⟩ := hses
  refine ⟨fun ha => ?_, hdemand⟩
  have hb := hs.base ha
  obtain ⟨t, c, ht, hc, hgoal, hdt, hdc⟩ := hb.marks
  have hrise : speedsRise s.spin.ladder = true := by
    obtain ⟨hl | ⟨hcons, -⟩, -⟩ := hp
    · exact absurd hl hb.ladder
    · simp only [ladderConsistent, Bool.and_eq_true] at hcons
      exact hcons.1.1
  have hlt : min t c < s.spin.ladder.length := Nat.lt_of_le_of_lt (Nat.min_le_left _ _) (Spin.isDwell_lt hdt)
  refine ⟨min t c, by rw [Spin.goal, ht, hc], ?_⟩
  obtain h | ⟨d, hd, h⟩ := hs.demand ha <;> rw [h]
  · exact Nat.le_trans (Nat.le_of_lt hb.weigh) (Spin.speedOf_mono hrise (Nat.zero_le _) hlt)
  · exact Spin.speedOf_mono hrise (hgoal ▸ hd) hlt

end Sys2Proof.Machine
end

section
/-! The rotation (O8): the open revolution, the pairing, index loss and the speeds stay within their rules under every effect. -/

namespace Sys2Proof.Machine

/-! ## The invariant, by what it says of the open revolution -/

/-- What Rotation.Ok and Rotation.StoppedOk say, with `n` slot edges since the last index edge still to be counted. -/
structure Rotation.Sane (t : Rotation) (n : Nat) : Prop where
  since : t.sinceIndex ≤ 48
  lost : t.indexLost = true ↔ t.sinceIndex = 48
  slots : ∀ v ∈ t.rev, v.slots + (if t.pendingSlot.isSome then 1 else 0) ≤ t.sinceIndex + n
  counted : t.rev.isSome = true → t.sinceIndex ≤ 47
  samples : ∀ v ∈ t.rev, v.samples.length = min v.slots storedSlots
  window : t.window.isSome = true → t.pendingSlot = none ∧ ∃ v ∈ t.rev, v.slots = 0
  slotSpeed : t.slotSpeed ≤ 4000
  speed : t.speed ≤ 4000
  timer : t.stopped = t.standstill.isNone
  stopped : t.stopped = true → n = 0 ∧ t.speed = 0 ∧ t.slotSpeed = 0 ∧ t.pendingSlot = none
    ∧ t.fallback = true ∧ ∀ v ∈ t.rev, v.slots = 0

theorem Rotation.sane_iff (t : Rotation) : t.Sane 0 ↔ t.Ok ∧ t.StoppedOk := by
  constructor
  · intro h
    refine ⟨⟨h.since, h.lost, fun v hv => ⟨h.slots v hv, h.counted (Option.isSome_of_mem hv), h.samples v hv⟩,
      fun hw => ?_, h.slotSpeed, h.speed, h.timer⟩, fun hs => ?_⟩
    · obtain ⟨hp, v, hv, hz⟩ := h.window hw
      exact ⟨hp, (Option.any_eq_true _ _).2 ⟨v, hv, by rw [hz]; rfl⟩⟩
    · obtain ⟨-, hspeed, hslot, hp, hf, hz⟩ := h.stopped hs
      exact ⟨hspeed, hslot, hp, hf, (Option.all_eq_true _ _).2 fun v hv => by rw [hz v hv]; rfl⟩
  · rintro ⟨⟨hsince, hlost, hrev, hwindow, hslot, hspeed, htimer⟩, hstopped⟩
    refine ⟨hsince, hlost, fun v hv => (hrev v hv).1, fun hsome => ?_, fun v hv => (hrev v hv).2.2,
      fun hw => ?_, hslot, hspeed, htimer, fun hs => ?_⟩
    · obtain ⟨v, hv⟩ := Option.isSome_iff_exists.1 hsome
      exact (hrev v hv).2.1
    · obtain ⟨hp, hany⟩ := hwindow hw
      obtain ⟨v, hv, hz⟩ := (Option.any_eq_true _ _).1 hany
      exact ⟨hp, v, hv, by simpa using hz⟩
    · obtain ⟨h1, h2, hp, hf, hall⟩ := hstopped hs
      exact ⟨rfl, h1, h2, hp, hf, fun v hv => by simpa using (Option.all_eq_true _ _).1 hall v hv⟩

section Pure
variable {t : Rotation} {n : Nat}

/-- The pairs of the slots may change, and what the pending slot edge carries. -/
theorem Rotation.Sane.relabel (h : t.Sane n) {f : Revolution → Revolution} {g : PendingSlot → PendingSlot}
    (hslots : ∀ v, (f v).slots = v.slots) (hlen : ∀ v, (f v).samples.length = v.samples.length) :
    { t with rev := t.rev.map f, pendingSlot := t.pendingSlot.map g }.Sane n := by
  have hrev (P : Revolution → Prop) (hP : ∀ v ∈ t.rev, P (f v)) : ∀ v ∈ t.rev.map f, P v := by
    intro v hv
    obtain ⟨w, hw, rfl⟩ := Option.map_eq_some_iff.1 hv
    exact hP w hw
  have hsome : (t.pendingSlot.map g).isSome = t.pendingSlot.isSome := Option.isSome_map
  refine ⟨h.since, h.lost, hrev _ fun v hv => ?_, fun hs => h.counted (by rwa [Option.isSome_map] at hs),
    hrev _ fun v hv => ?_, fun hw => ?_, h.slotSpeed, h.speed, h.timer, fun hs => ?_⟩
  · rw [hslots, hsome]
    exact h.slots v hv
  · rw [hslots, hlen]
    exact h.samples v hv
  · obtain ⟨hp, v, hv, hz⟩ := h.window hw
    exact ⟨by rw [hp]; rfl, f v, Option.mem_map_of_mem f hv, by rw [hslots, hz]⟩
  · obtain ⟨h0, h1, h2, hp, hf, hz⟩ := h.stopped hs
    exact ⟨h0, h1, h2, by rw [hp]; rfl, hf, hrev _ fun v hv => by rw [hslots]; exact hz v hv⟩

theorem Revolution.assign_slots (v : Revolution) (x : Sample) (l : Look) (b : Bool) :
    (v.assign x l b).slots = v.slots + 1 := rfl

theorem Revolution.assign_samples {v : Revolution} (h : v.samples.length = min v.slots storedSlots)
    (x : Sample) (l : Look) (b : Bool) :
    (v.assign x l b).samples.length = min (v.slots + 1) storedSlots := by
  show (if v.slots < storedSlots then v.samples ++ [x] else v.samples).length = _
  split
  · rw [List.length_append, List.length_singleton]
    omega
  · omega

/-- No revolution is open and no slot edge is held. -/
theorem Rotation.Sane.bare (hrev : t.rev = none) (hp : t.pendingSlot = none) (hw : t.window = none)
    (hsince : t.sinceIndex ≤ 48) (hlost : t.indexLost = true ↔ t.sinceIndex = 48)
    (hslot : t.slotSpeed ≤ 4000) (hspeed : t.speed ≤ 4000) (htimer : t.stopped = t.standstill.isNone)
    (hstopped : t.stopped = true → t.speed = 0 ∧ t.slotSpeed = 0 ∧ t.fallback = true) : t.Sane 0 := by
  refine ⟨hsince, hlost, ?_, ?_, ?_, ?_, hslot, hspeed, htimer, fun hs => ?_⟩
  · simp [hrev]
  · simp [hrev]
  · simp [hrev]
  · simp [hw]
  · obtain ⟨h1, h2, h3⟩ := hstopped hs
    exact ⟨rfl, h1, h2, hp, h3, by simp [hrev]⟩

/-- R15: counting the slot edge that was placed, when that brings no index loss. -/
theorem Rotation.Sane.count (h : t.Sane 1)
    (hno : countUp indexLossCount t.sinceIndex = indexLossCount → t.indexLost = true) :
    { t with sinceIndex := countUp indexLossCount t.sinceIndex }.Sane 0 := by
  have hsince := h.since
  have hup : countUp indexLossCount t.sinceIndex = min 48 (t.sinceIndex + 1) := rfl
  have hlost := h.lost
  refine ⟨by rw [hup]; exact Nat.min_le_left _ _, ?_, fun v hv => ?_, fun hs => ?_, h.samples, h.window,
    h.slotSpeed, h.speed, h.timer, fun hs => ?_⟩
  · constructor
    · intro hl
      show countUp _ _ = 48
      rw [hup, hlost.1 hl]
      rfl
    · exact hno
  · have hle := h.slots v hv
    have hc := h.counted (Option.isSome_of_mem hv)
    show _ ≤ countUp indexLossCount t.sinceIndex + 0
    rw [hup]
    dsimp only at hle ⊢
    omega
  · have hc := h.counted hs
    show countUp indexLossCount t.sinceIndex ≤ 47
    refine Classical.byContradiction fun hgt => ?_
    have hl := hno (by rw [hup] at hgt ⊢; show _ = 48; omega)
    rw [hlost] at hl
    omega
  · exact absurd (h.stopped hs).1 (by decide)

end Pure

/-! ## What each effect makes of the rotation -/

/-- R7: the pending slot edge joins the open revolution, or none. -/
def Rotation.joined (t : Rotation) : Rotation :=
  match t.pendingSlot with
  | none => t
  | some q => { t with
      rev := t.rev.map (fun v => v.assign q.sample ⟨q.ramping, q.filling⟩ q.struck)
      pendingSlot := none }

/-- R7, R9: the revolution an index edge opens. -/
def Rotation.openedBy (t : Rotation) (now : Stamp) (l : Look) : Rotation :=
  match t.pendingSlot with
  | some q => { t with
      rev := some { (Revolution.opened now l).assign q.sample ⟨q.ramping, q.filling⟩ q.struck with
        paired := true }
      window := none, pendingSlot := none, sinceIndex := 1, indexLost := false }
  | none => { t with
      rev := some (.opened now l), window := some ⟨now, pairingUs⟩, sinceIndex := 0, indexLost := false }

section Ops
variable (s : State)

theorem State.torqueAssigned_rot (q : Option Nat) : (s.torqueAssigned q).rot = s.rot := by
  unfold State.torqueAssigned
  dsimp only
  split
  · split <;> rfl
  · rfl

theorem State.joinPending_rot : s.joinPending.rot = s.rot.joined := by
  unfold State.joinPending Rotation.joined
  cases s.rot.pendingSlot with
  | none => rfl
  | some q =>
    dsimp only
    cases s.rot.rev with
    | none => rfl
    | some v => exact State.torqueAssigned_rot _ _

theorem State.openRevolution_rot (l : Look) :
    (s.openRevolution l).rot = s.rot.openedBy s.time l := by
  unfold State.openRevolution Rotation.openedBy
  cases h : s.rot.pendingSlot with
  | none => simp [h]
  | some q => rfl

theorem State.speedChanged_rot (old : Nat) : (s.speedChanged old).rot = s.rot :=
  (s.speedChanged_frame old).rot

theorem State.handOff_rot (old : Nat) (r : RevRecord) : (s.handOff old r).rot = s.rot := by
  have htrace : (s.traceRevolution r).rot = s.rot := by
    unfold State.traceRevolution
    split <;> rfl
  unfold State.handOff
  dsimp only
  split
  · rw [(State.takeRecord_frame _ r).rot, State.speedChanged_rot, htrace]
  · rw [State.speedChanged_rot, (State.takeRecord_frame _ r).rot, htrace]

theorem State.countInvalid_rot : s.countInvalid.rot = s.rot := by
  have hevent (u : State) : u.sensorEvent.rot = u.rot := by
    unfold State.sensorEvent
    split
    · rfl
    · exact (u.abortOn_frame .sensor).rot
  unfold State.countInvalid
  dsimp only
  split
  · rw [hevent]
    rfl
  · rfl

theorem State.strikeEvent_rot (x y : Int) (m : Nat) : (s.strikeEvent x y m).rot = s.rot := by
  unfold State.strikeEvent
  split
  · split <;> rfl
  · exact (s.abortOn_frame .strike).rot

theorem State.indexLossEvent_rot : s.indexLossEvent.rot = s.rot := by
  unfold State.indexLossEvent
  split
  · rfl
  · exact (s.abortOn_frame .index).rot

/-! ## Effects that leave rotation, table and trace queue alone -/

structure SameRecords (s t : State) : Prop where
  rot : t.rot = s.rot
  table : t.table = s.table
  trace : t.trace = s.trace

theorem SameRecords.refl : SameRecords s s := ⟨rfl, rfl, rfl⟩

theorem SameRecords.trans {a b c : State} (h : SameRecords a b) (k : SameRecords b c) : SameRecords a c :=
  ⟨k.rot.trans h.rot, k.table.trans h.table, k.trace.trans h.trace⟩

theorem SessionFrame.records {s t : State} (h : SessionFrame s t) : SameRecords s t :=
  ⟨h.rot, h.table, h.trace⟩

theorem WaterFrame.records {s t : State} (h : WaterFrame s t) : SameRecords s t :=
  ⟨h.rot, h.table, h.trace⟩

theorem State.driveFault_records : SameRecords s s.driveFault :=
  SameRecords.trans (b := s.setPins { s.pins with dflt := true }) ⟨rfl, rfl, rfl⟩
    (State.abortOn_frame _ .drive).records

theorem State.finishOrder_records (r : EndReason) : SameRecords s (s.finishOrder r) :=
  (s.finishOrder_frame r).records

theorem State.flowPulse_records : SameRecords s s.flowPulse := by
  unfold State.flowPulse
  split
  · unfold State.meterPulse
    dsimp only
    split
    · exact (WaterFrame.setCham s _).records.trans (State.finishOrder_records _ _)
    · exact (WaterFrame.setCham s _).records
  · exact s.leakPulse_frame.records

theorem State.leaveService_records : SameRecords s s.leaveService :=
  SameRecords.trans (b := s.setServ { s.serv with mode := false }) ⟨rfl, rfl, rfl⟩
    (State.endAll_frame _ _).records

theorem State.svcFalls_records : SameRecords s s.svcFalls := by
  have hpins : SameRecords s (s.setPins { s.pins with svc := false }) := ⟨rfl, rfl, rfl⟩
  unfold State.svcFalls
  dsimp only
  split
  · exact hpins.trans (State.leaveService_records _)
  · exact hpins

theorem State.endWeighing_records (e : Weigh × WeighedReport) : SameRecords s (s.endWeighing e) :=
  SameRecords.trans (b := giveReport (.weighed e.2) (s.setWeigh e.1)) ⟨rfl, rfl, rfl⟩
    (State.startRamping_frame _ _ _ _).records

theorem State.weighLimit_records : SameRecords s s.weighLimit := by
  unfold State.weighLimit
  split
  · exact .refl s
  · exact s.endWeighing_records _

theorem State.rampTimeout_records : SameRecords s s.rampTimeout := by
  unfold State.rampTimeout
  dsimp only
  split
  · exact (s.lowerCeiling_frame _ _).records.trans (State.startRetreating_frame _ _ _).records
  · exact (s.abortOn_frame .drive).records

theorem State.bleed_records : SameRecords s s.bleed := by
  unfold State.bleed
  dsimp only
  split <;> exact (WaterFrame.setCham s _).records

theorem State.supplyTimeout_records : SameRecords s s.supplyTimeout := by
  unfold State.supplyTimeout
  split
  next f _ =>
    have hended := (s.endAll_frame .supply).records.trans
      (WaterFrame.setCham (s.endAll .supply) ((s.endAll .supply).cham.noteSupply f)).records
    exact (hended.trans (WaterFrame.report _ _).records).trans (State.fillEndIfDone_frame _ _).records
  next => exact .refl s

theorem State.applyTarget_records (n : Nat) : SameRecords s (s.applyTarget n) := by
  obtain ⟨heq, -⟩ | ⟨-, -, heq⟩ | ⟨-, -, -, heq⟩ := s.applyTarget_cases n <;> rw [heq]
  · exact .refl s
  · exact (s.startRetreating_frame _ _).records
  · exact (SessionFrame.setSpin s _).records

theorem State.depositContent_records (c : Fin 4) (g : Nat) : SameRecords s (s.depositContent c g) := by
  unfold State.depositContent
  dsimp only
  split
  · exact (WaterFrame.setCham s _).records.trans (State.finishOrder_records _ _)
  · exact (WaterFrame.setCham s _).records

theorem State.stopChamber_records (c : Fin 4) : SameRecords s (s.stopChamber c).1 := by
  unfold State.stopChamber
  split
  · exact (s.endAndGoOn_frame _).records
  · split
    · exact (WaterFrame.setCham s _).records.trans (State.endUnstarted_frame _ _ _ _).records
    · exact .refl s

/-- R116: after the session's record is prepared the rest leaves rotation, table and trace queue alone. -/
theorem State.beginSession_records (n seconds : Nat) (continuation : Bool) :
    SameRecords (s.prepareSession n seconds continuation) (s.beginSession n seconds continuation) := by
  have henter := (State.enter_frame (s.prepareSession n seconds continuation) .weighing .start).records
  unfold State.beginSession
  dsimp only
  split
  · exact henter.trans (State.abortOn_frame _ .drive).records
  · exact henter

/-! ## Every effect keeps the rotation in order -/

variable {s}

theorem Rotation.Sane.joined {t : Rotation} (h : t.Sane 0) : t.joined.Sane 0 ∧ t.joined.pendingSlot = none := by
  unfold Rotation.joined
  split
  next hp => exact ⟨h, hp⟩
  next q hp =>
    have hwindow : ¬ t.window.isSome = true := fun hw => by
      rw [(h.window hw).1] at hp
      exact nomatch hp
    have hstopped : ¬ t.stopped = true := fun hs => by
      obtain ⟨-, -, -, hnone, -⟩ := h.stopped hs
      rw [hnone] at hp
      exact nomatch hp
    refine ⟨⟨h.since, h.lost, fun v hv => ?_, fun hs => h.counted (by rwa [Option.isSome_map] at hs),
      fun v hv => ?_, fun hw => absurd hw hwindow, h.slotSpeed, h.speed, h.timer,
      fun hs => absurd hs hstopped⟩, rfl⟩ <;> obtain ⟨w, hw, rfl⟩ := Option.map_eq_some_iff.1 hv
    · have hle := h.slots w hw
      rw [hp] at hle
      exact hle
    · exact Revolution.assign_samples (h.samples w hw) _ _ _

theorem Rotation.Sane.openedBy {t : Rotation} (h : t.Sane 0) (now : Stamp) (l : Look) :
    (t.openedBy now l).Sane 0 := by
  unfold Rotation.openedBy
  split
  next q hp =>
    have hstopped : ¬ t.stopped = true := fun hs => by
      obtain ⟨-, -, -, hnone, -⟩ := h.stopped hs
      rw [hnone] at hp
      exact nomatch hp
    refine ⟨(by decide : 1 ≤ 48), by simp, fun v hv => ?_, fun _ => (by decide : 1 ≤ 47), fun v hv => ?_,
      fun hw => (nomatch hw),
      h.slotSpeed, h.speed, h.timer, fun hs => absurd hs hstopped⟩ <;> obtain rfl := Option.some.inj hv
    · exact Nat.le_refl 1
    · rfl
  next hp =>
    refine ⟨Nat.zero_le _, by simp, fun v hv => ?_, fun _ => Nat.zero_le _, fun v hv => ?_,
      fun _ => ⟨hp, _, rfl, rfl⟩, h.slotSpeed, h.speed, h.timer, fun hs => ?_⟩
    · obtain rfl := Option.some.inj hv
      show 0 + (if t.pendingSlot.isSome then 1 else 0) ≤ 0 + 0
      rw [hp]
      exact Nat.le_refl _
    · obtain rfl := Option.some.inj hv
      rfl
    · obtain ⟨h0, h1, h2, -, hf, -⟩ := h.stopped hs
      exact ⟨h0, h1, h2, hp, hf, fun v hv => by obtain rfl := Option.some.inj hv; rfl⟩

theorem periodSpeedOf_le (draw us : Nat) : periodSpeedOf draw us ≤ 4000 := by
  unfold periodSpeedOf
  split <;> exact Nat.min_le_left _ _

theorem slotSpeedOf_le (draw us : Nat) : slotSpeedOf draw us ≤ 4000 := by
  unfold slotSpeedOf
  split <;> exact Nat.min_le_left _ _

/-- R10 to R12: a closed revolution of 32 slots gives the current speed; a standing basket has closed none. -/
theorem Rotation.Sane.closedBy (h : s.rot.Sane 0) {v : Revolution} (hv : s.rot.rev = some v) (b : Bool)
    (l : Look) : (s.rot.closedBy (s.closeRecord v b l)).Sane 0 := by
  have hslots (hwell : (s.closeRecord v b l).wellTimed = true) : v.slots = 32 := by
    simp only [State.closeRecord, Bool.and_eq_true, decide_eq_true_eq] at hwell
    exact hwell.1.1
  refine ⟨h.since, h.lost, h.slots, h.counted, h.samples, h.window, h.slotSpeed, ?_, h.timer, fun hs => ?_⟩
  · show (if _ then _ else _) ≤ 4000
    split
    · exact periodSpeedOf_le _ _
    · exact h.speed
  · obtain ⟨h0, h1, h2, hp, hf, hz⟩ := h.stopped hs
    have hno : ¬ (s.closeRecord v b l).wellTimed = true := fun hwell => by
      have := hz v hv
      rw [hslots hwell] at this
      exact nomatch this
    refine ⟨h0, ?_, h2, hp, ?_, hz⟩
    · exact (if_neg hno).trans h1
    · exact (if_neg hno).trans hf

theorem State.indexEdge_sane (h : s.rot.Sane 0) (b : Bool) : (s.indexEdge b).rot.Sane 0 := by
  unfold State.indexEdge
  dsimp only
  split
  next =>
    rw [State.torqueAssigned_rot, State.openRevolution_rot]
    exact h.openedBy _ _
  next v hv =>
    rw [State.torqueAssigned_rot, State.handOff_rot, State.openRevolution_rot]
    exact (h.closedBy hv _ _).openedBy _ _

theorem State.joinPending_sane (h : s.rot.Sane 0) : s.joinPending.rot.Sane 0 := by
  rw [State.joinPending_rot]
  exact h.joined.1

theorem State.newSlotSpeed_le : s.newSlotSpeed ≤ 4000 := by
  unfold State.newSlotSpeed
  split
  · exact Nat.zero_le _
  · split
    · exact slotSpeedOf_le _ _
    · exact Nat.zero_le _

/-- R6, R16: a timed slot edge moves the basket. -/
theorem State.timeSlotEdge_sane (h : s.rot.Sane 0) :
    s.timeSlotEdge.rot.Sane 0 ∧ s.timeSlotEdge.rot.stopped = false := by
  have hrot : s.timeSlotEdge.rot = { s.rot with
      lastEdge := some s.time, slotSpeed := s.newSlotSpeed
      speed := if s.rot.fallback then s.newSlotSpeed else s.rot.speed
      stopped := false, standstill := some (msTimer s.time standstillMs) } :=
    State.speedChanged_rot _ _
  rw [hrot]
  refine ⟨⟨h.since, h.lost, h.slots, h.counted, h.samples, h.window, State.newSlotSpeed_le, ?_, rfl,
    fun hs => nomatch hs⟩, rfl⟩
  show (if _ then _ else _) ≤ 4000
  split
  · exact State.newSlotSpeed_le
  · exact h.speed

/-- R7: the placed slot edge is one more than counted so far. -/
theorem State.placeSlotEdge_sane (h : s.rot.Sane 0) (hmoving : s.rot.stopped = false) (l : Look)
    (climb : Bool) : (s.placeSlotEdge l climb).rot.Sane 1 := by
  have hstopped {t : Rotation} (ht : t.stopped = s.rot.stopped) : ¬ t.stopped = true := by
    rw [ht, hmoving]
    decide
  unfold State.placeSlotEdge
  split
  next w v hw hv =>
    obtain ⟨hp, v', hv', hz⟩ := h.window (by rw [hw]; rfl)
    obtain rfl := Option.some.inj (hv.symm.trans hv')
    refine ⟨h.since, h.lost, fun u hu => ?_, fun _ => h.counted (by rw [hv]; rfl), fun u hu => ?_,
      fun hs => (nomatch hs), h.slotSpeed, h.speed, h.timer, fun hs => absurd hs (hstopped rfl)⟩ <;>
      obtain rfl := Option.some.inj hu
    · show v.slots + 1 + (if s.rot.pendingSlot.isSome then 1 else 0) ≤ s.rot.sinceIndex + 1
      rw [hp, hz]
      exact Nat.le_add_left _ _
    · exact Revolution.assign_samples (h.samples v hv) s.firstSample l false
  next hno =>
    have hwindow : ¬ s.rot.window.isSome = true := fun hs => by
      obtain ⟨w, hw⟩ := Option.isSome_iff_exists.1 hs
      obtain ⟨-, v, hv, -⟩ := h.window hs
      exact hno w v hw hv
    obtain ⟨hj, hnone⟩ := h.joined
    have hsame : s.rot.joined.window = s.rot.window ∧ s.rot.joined.stopped = s.rot.stopped := by
      unfold Rotation.joined
      split <;> exact ⟨rfl, rfl⟩
    have hrot (u : State) (d : ReadDest) (q : TorqueDest) : (u.startSampling d q).rot = u.rot := rfl
    unfold State.holdPending
    dsimp only
    rw [hrot, State.setRot_rot, State.joinPending_rot]
    refine ⟨hj.since, hj.lost, fun u hu => ?_, hj.counted, hj.samples, fun hs => ?_, hj.slotSpeed, hj.speed,
      hj.timer, fun hs => absurd hs (hstopped hsame.2)⟩
    · have hle := hj.slots u hu
      rw [hnone] at hle
      exact Nat.add_le_add_right hle 1
    · rw [← hsame.1] at hwindow
      exact absurd hs hwindow

theorem State.countSlotEdge_sane (h : s.rot.Sane 1) : s.countSlotEdge.rot.Sane 0 := by
  have hmoving (hs : s.rot.stopped = true) : False := absurd (h.stopped hs).1 (by decide)
  unfold State.countSlotEdge
  dsimp only
  split
  next hloss =>
    unfold State.indexLoss
    dsimp only
    rw [State.indexLossEvent_rot]
    exact .bare rfl rfl rfl (Nat.le_of_eq hloss.1) (iff_of_true rfl hloss.1) h.slotSpeed h.speed h.timer
      fun hs => (hmoving hs).elim
  next hno =>
    exact h.count fun hup => by
      refine Classical.byContradiction fun hl => ?_
      exact hno ⟨hup, Bool.eq_false_iff.2 hl⟩

theorem State.slotEdge_sane (h : s.rot.Sane 0) : s.slotEdge.rot.Sane 0 := by
  obtain ⟨htimed, hmoving⟩ := State.timeSlotEdge_sane h
  have hplaced (l : Look) (climb : Bool) :
      ((s.timeSlotEdge.placeSlotEdge l climb).weighSlotEdge).rot.Sane 1 :=
    State.placeSlotEdge_sane htimed hmoving l climb
  unfold State.slotEdge
  dsimp only
  refine State.countSlotEdge_sane ?_
  split
  · rw [State.countInvalid_rot]
    exact hplaced _ _
  · exact hplaced _ _

theorem Rotation.Sane.storePair {t : Rotation} {n : Nat} (h : t.Sane n) (dest : ReadDest) (p : Sample)
    (b : Bool) : (t.storePair dest p b).Sane n := by
  cases dest with
  | pending =>
    have hsame := h.relabel (f := id) (g := fun q => { q with sample := p, struck := q.struck || b })
      (fun _ => rfl) (fun _ => rfl)
    rw [Option.map_id] at hsame
    exact hsame
  | slot k =>
    have hsame := h.relabel (g := id)
      (f := fun v => { v with samples := v.samples.set k p, struck := v.struck || b })
      (fun _ => rfl) (fun v => List.length_set)
    rw [Option.map_id] at hsame
    exact hsame
  | nowhere => exact h

theorem State.readComplete_sane (h : s.rot.Sane 0) (x y : BitVec 12) : (s.readComplete x y).rot.Sane 0 := by
  unfold State.readComplete State.readDone
  split
  · dsimp only
    split
    · split
      · rw [State.strikeEvent_rot]
        exact h.storePair _ _ _
      · exact h.storePair _ _ _
    · rw [State.countInvalid_rot]
      exact h.storePair _ _ _
    · exact h
  · exact h

theorem State.conversionComplete_sane (h : s.rot.Sane 0) (code : BitVec 10) :
    (s.conversionComplete code).rot.Sane 0 := by
  unfold State.conversionComplete State.conversionDone
  split
  · dsimp only
    split
    · exact h
    · exact h
    · have hsame := h.relabel (f := id) (g := fun q => { q with torque := some (torqueOf code) })
        (fun _ => rfl) (fun _ => rfl)
      rw [Option.map_id] at hsame
      exact hsame
    · exact h
  · exact h

theorem State.stopBasket_sane (h : s.rot.Sane 0) : s.stopBasket.rot.Sane 0 :=
  .bare rfl rfl rfl h.since h.lost (Nat.zero_le _) (Nat.zero_le _) rfl fun _ => ⟨rfl, rfl, rfl⟩

theorem State.standstill_rot : s.standstill.rot = s.stopBasket.rot := by
  unfold State.standstill
  dsimp only
  split
  · rw [(State.stoppedEvent_frame _).rot, State.speedChanged_rot]
  · rw [State.speedChanged_rot, (State.stoppedEvent_frame _).rot]

theorem State.dropTorque_sane (h : s.rot.Sane 0) : s.rot.dropTorque.Sane 0 := by
  have hsame := h.relabel (f := id) (g := fun q => { q with torque := none }) (fun _ => rfl) (fun _ => rfl)
  rw [Option.map_id] at hsame
  exact hsame

theorem BlockEvent.sane {t : State} (he : BlockEvent s t) (h : s.rot.Sane 0) : t.rot.Sane 0 := by
  cases he with
  | powerOnReset lsel =>
    exact .bare rfl rfl rfl (Nat.zero_le _) (iff_of_false (by decide : ¬ false = true) (by decide : ¬ 0 = 48))
      (Nat.zero_le _) (Nat.zero_le _) rfl fun _ => ⟨rfl, rfl, rfl⟩
  | indexEdge b => exact State.indexEdge_sane h b
  | slotEdge => exact State.slotEdge_sane h
  | closeWindow =>
    exact ⟨h.since, h.lost, h.slots, h.counted, h.samples, fun hs => (nomatch hs), h.slotSpeed, h.speed, h.timer,
      h.stopped⟩
  | joinPending => exact State.joinPending_sane h
  | readComplete x y => exact State.readComplete_sane h x y
  | conversionComplete code => exact State.conversionComplete_sane h code
  | standstill =>
    rw [State.standstill_rot]
    exact State.stopBasket_sane h
  | driveFault => exact s.driveFault_records.rot ▸ h
  | flowPulse => exact s.flowPulse_records.rot ▸ h
  | svcFalls => exact s.svcFalls_records.rot ▸ h
  | weighLimit => exact s.weighLimit_records.rot ▸ h
  | rampTimeout => exact s.rampTimeout_records.rot ▸ h
  | durationEnds | stop => exact (s.closeActive_frame _).rot ▸ h
  | bleed => exact s.bleed_records.rot ▸ h
  | supplyTimeout => exact s.supplyTimeout_records.rot ▸ h
  | restart =>
    exact .bare rfl rfl rfl (Nat.zero_le _) (iff_of_false (by decide : ¬ false = true) (by decide : ¬ 0 = 48)) h.slotSpeed h.speed h.timer fun hs =>
      ⟨(h.stopped hs).2.1, (h.stopped hs).2.2.1, rfl⟩
  | startSpin n seconds continuation =>
    rw [(s.beginSession_records n seconds continuation).rot]
    exact State.dropTorque_sane h
  | setTarget n =>
    rw [(State.applyTarget_records (s.setSpin { s.spin with target := some n }) n).rot]
    exact h
  | serviceLeave => exact s.leaveService_records.rot ▸ h
  | depositChamber c g => exact (s.depositContent_records c g).rot ▸ h
  | manualFill b => exact (s.takeOrder_frame _).rot ▸ h
  | stopAll => exact (s.endAll_frame _).rot ▸ h
  | stopChamber c => exact (s.stopChamber_records c).rot ▸ h
  | clearStep | loadLadder | loadParameters | loadBaseline | flushTable | supplyRefused | setTrace | readTrace
  | serviceEnter | depositSlot | forceBaseline => exact h

end Ops

/-- Settles O8: every effect on the blocks keeps the rotation in order. -/
theorem stepKeepsRotation : Obligations.StepKeepsRotation := by
  intro s t hok hstopped h
  rw [← Rotation.sane_iff]
  exact step_keeps (P := fun u => u.rot.Sane 0) (fun hsame hs => hsame.rot ▸ hs)
    (fun he hs => he.sane hs) h ((Rotation.sane_iff _).2 ⟨hok, hstopped⟩)

end Sys2Proof.Machine
end

section
/-! The counts, the hit history, the trace queue and the background clear (O9): every move keeps them in bounds. -/

namespace Sys2Proof.Machine

/-- The counts, marks and records of the blocks keep their bounds. -/
structure BoundsKept (s t : State) : Prop where
  run : s.samp.invalidRun ≤ 255 → t.samp.invalidRun ≤ 255
  table : TableKept s.table t.table
  trace : s.trace.Small → t.trace.Small
  count : s.est.m ≤ 255 → t.est.m ≤ 255

section
variable {s t : State}

theorem BoundsKept.refl (s : State) : BoundsKept s s := ⟨id, .refl _, id, id⟩

theorem BoundsKept.trans {a b c : State} (h : BoundsKept a b) (k : BoundsKept b c) : BoundsKept a c :=
  ⟨k.run ∘ h.run, h.table.trans k.table, k.trace ∘ h.trace, k.count ∘ h.count⟩

/-- Sampler, table and trace queue are the same. -/
theorem BoundsKept.ofRecords (h : SameRecords s t) (hsamp : t.samp.invalidRun = s.samp.invalidRun)
    (hcount : s.est.m ≤ 255 → t.est.m ≤ 255) : BoundsKept s t :=
  ⟨by rw [hsamp]; exact id, by rw [h.table]; exact .refl _, by rw [h.trace]; exact id, hcount⟩

theorem BoundsKept.boundsOk (h : BoundsKept s t) (hs : s.BoundsOk) : t.BoundsOk := by
  obtain ⟨hrun, hhistory, hqueue, hgap, hn, hm, hcount⟩ := hs
  obtain ⟨hqueue', hgap', hn', hm'⟩ := h.trace ⟨hqueue, hgap, hn, hm⟩
  exact ⟨h.run hrun, h.table.history hhistory, hqueue', hgap', hn', hm', h.count hcount⟩

theorem WaterFrame.bounds (h : WaterFrame s t) : BoundsKept s t :=
  .ofRecords h.records (by rw [h.samp]) (by rw [h.count]; exact id)

theorem State.startRamping_bounds (i : Nat) (dir : Dir) (reason : StateReason) :
    BoundsKept s (s.startRamping i dir reason) := by
  refine .ofRecords (s.startRamping_frame i dir reason).records ?_ ?_ <;> rw [State.startRamping_eq]
  · exact congrArg Sampler.invalidRun s.plateauLeft_frame.samp
  · exact fun _ => Nat.zero_le _

theorem State.startRetreating_bounds (i : Nat) (reason : StateReason) :
    BoundsKept s (s.startRetreating i reason) := by
  refine .ofRecords (s.startRetreating_frame i reason).records ?_ ?_ <;> rw [State.startRetreating_eq]
  · exact congrArg Sampler.invalidRun s.plateauLeft_frame.samp
  · exact fun _ => Nat.zero_le _

theorem State.sessionClosed_bounds (new : SpinState) (c : Cause) (den brk : Bool) :
    BoundsKept s (s.sessionClosed new c den brk) := by
  have hf := s.plateauLeft_frame
  refine .ofRecords ⟨hf.rot, hf.table, hf.trace⟩ ?_ fun _ => Nat.zero_le _
  show (if s.spin.state = .weighing then _ else s.samp : Sampler).invalidRun = _
  split <;> rfl

theorem State.endedIfStopped_bounds : BoundsKept s s.endedIfStopped := by
  unfold State.endedIfStopped
  split
  · exact ⟨id, .refl _, id, fun _ => Nat.zero_le _⟩
  · exact .refl s

theorem Move.bounds (h : Move s t) : BoundsKept s t := by
  cases h with
  | same h => exact ⟨h.run, h.table, h.trace, by rw [h.est]; exact id⟩
  | weighed | counted | arrive | settled | resettle | cap | ladder | params | serviceEnter =>
    exact ⟨id, .refl _, id, id⟩
  | endWeighing e =>
    exact BoundsKept.trans (b := giveReport (.weighed e.2) (s.setWeigh e.1)) ⟨id, .refl _, id, id⟩
      (State.startRamping_bounds _ _ _)
  | water h => exact h.frame.bounds
  | estimate e hm hpre hcount =>
    exact ⟨id, .refl _, id, fun h => Nat.le_trans hcount (Nat.max_le.2 ⟨Nat.le_refl _, h⟩)⟩
  | advance => exact State.startRamping_bounds _ _ _
  | retreat => exact State.startRetreating_bounds _ _
  | capRetreat =>
    exact BoundsKept.trans (b := s.lowerCeiling _ .retreats) ⟨id, .refl _, id, id⟩
      (State.startRetreating_bounds _ _)
  | shortfall =>
    exact BoundsKept.trans (b := s.lowerCeiling _ .shortfall) ⟨id, .refl _, id, id⟩
      (State.startRetreating_bounds _ _)
  | balance i a k orders =>
    have hemptied : BoundsKept s
        (s.setEst { s.est.emptied with preFill := some ⟨i, a, k, Vector.replicate 4 0⟩ }) :=
      ⟨id, .refl _, id, fun _ => Nat.zero_le _⟩
    exact (hemptied.trans (State.takeOrders_frame _ orders).bounds).trans ⟨id, .refl _, id, id⟩
  | winddown c =>
    rw [State.enterWinddown_eq]
    exact (State.sessionClosed_bounds _ _ _ _).trans State.endedIfStopped_bounds
  | abort c =>
    rw [State.enterAborting_eq]
    exact (State.sessionClosed_bounds _ _ _ _).trans State.endedIfStopped_bounds
  | endSession =>
    exact .ofRecords s.endSession_frame.records (by simp [State.endSession, State.enter])
      fun _ => by simp [State.endSession, Estimator.emptied]
  | target n =>
    refine BoundsKept.trans (b := s.setSpin { s.spin with target := some n }) ⟨id, .refl _, id, id⟩ ?_
    obtain ⟨heq, -⟩ | ⟨-, -, heq⟩ | ⟨-, -, -, heq⟩ :=
      (s.setSpin { s.spin with target := some n }).applyTarget_cases n <;> rw [heq]
    · exact .refl _
    · exact State.startRetreating_bounds _ _
    · exact ⟨id, .refl _, id, id⟩
  | start =>
    exact ⟨id, s.table.flushNow_kept _, fun h => ⟨h.queue, Nat.zero_le _, h.low, h.high⟩,
      fun _ => Nat.zero_le _⟩
  | restart =>
    exact ⟨fun _ => Nat.zero_le _, ⟨fun _ => Table.clearOk_of_pos _ rfl, fun _ => Nat.zero_le _⟩,
      fun h => ⟨Nat.zero_le _, Nat.zero_le _, h.low, h.high⟩, fun _ => Nat.zero_le _⟩
  | powerOn lsel =>
    exact ⟨fun _ => Nat.zero_le _, ⟨fun _ => Table.clearOk_of_pos _ rfl, fun _ => Nat.zero_le _⟩,
      fun _ => ⟨Nat.zero_le _, Nat.zero_le _, (by decide : 4 ≤ 15), (by decide : 4 ≤ 15)⟩,
      fun _ => Nat.zero_le _⟩
  | serviceLeave =>
    exact BoundsKept.trans (b := s.setServ { s.serv with mode := false }) ⟨id, .refl _, id, id⟩
      (State.endAll_frame _ _).bounds

theorem step_bounds (h : step s = .next t) : BoundsKept s t :=
  (step_moves h).keeps (P := BoundsKept s) (fun hm hs => hs.trans hm.bounds) (.refl s)

end

/-- Settles O9. -/
theorem stepKeepsMarksAndCounts : Obligations.StepKeepsMarksAndCounts :=
  ⟨fun _ _ hs h => (step_bounds h).boundsOk hs, fun _ _ hs h => (step_bounds h).table.clear hs⟩

end Sys2Proof.Machine
end

section
/-! The Link Port (O7): buffer, reply slot, receiver, report queue and counts agree after every command, and the
transmitter's choice leaves nothing waiting for a free transmitter. -/

namespace Sys2Proof.Machine

/-! ## Counts of the Link Port -/

/-- The discard counts in their bounds (R166). -/
structure Discards.Small (d : Discards) : Prop where
  length : d.length ≤ 255
  line : d.line ≤ 255
  gap : d.gap ≤ 255
  crc : d.crc ≤ 255
  full : d.full ≤ 255

theorem Discards.Small.count {d : Discards} (h : d.Small) (r : DiscardReason) : (d.count r).Small := by
  cases r
  · exact ⟨countUp_le _ _, h.line, h.gap, h.crc, h.full⟩
  · exact ⟨h.length, countUp_le _ _, h.gap, h.crc, h.full⟩
  · exact ⟨h.length, h.line, countUp_le _ _, h.crc, h.full⟩
  · exact ⟨h.length, h.line, h.gap, countUp_le _ _, h.full⟩
  · exact ⟨h.length, h.line, h.gap, h.crc, countUp_le _ _⟩

/-- What a handled request keeps of the Link Port's counts. -/
structure CountsKept (l l' : Link) : Prop where
  count : l.dropped ≤ 255 → l'.dropped ≤ 255
  mark : l.eventsDropped = (l.dropped != 0) → l'.eventsDropped = (l'.dropped != 0)
  discards : l.discards.Small → l'.discards.Small

theorem CountsKept.refl (l : Link) : CountsKept l l := ⟨id, id, id⟩

theorem LinkFrame.counts {l l' : Link} (h : LinkFrame l l') : CountsKept l l' :=
  ⟨h.count, h.mark, by rw [h.discards]; exact id⟩

section Answers
variable (s : State) (b : List Octet)

theorem State.beginSession_link (n seconds : Nat) (c : Bool) :
    LinkFrame s.link (s.beginSession n seconds c).link := by
  have henter : LinkFrame s.link ((s.prepareSession n seconds c).enter .weighing .start).link :=
    (State.enter_frame (s.prepareSession n seconds c) .weighing .start).link
  rw [State.beginSession]
  generalize (s.prepareSession n seconds c).enter .weighing .start = s1 at henter
  split
  · exact henter.trans (s1.abortOn_frame .drive).link
  · exact henter

theorem State.applyTarget_link (n : Nat) : LinkFrame s.link (s.applyTarget n).link := by
  obtain ⟨heq, -⟩ | ⟨-, -, heq⟩ | ⟨-, -, -, heq⟩ := s.applyTarget_cases n <;> rw [heq]
  · exact .refl _
  · exact (s.startRetreating_frame _ _).link
  · exact .refl _

theorem State.depositContent_link (c : Fin 4) (g : Nat) :
    LinkFrame s.link (s.depositContent c g).link := by
  unfold State.depositContent
  dsimp only
  split
  · exact (BlockFrame.setCham s _).link.trans (State.finishOrder_frame _ _).link
  · exact .refl _

theorem State.stopChamber_link (c : Fin 4) : LinkFrame s.link (s.stopChamber c).1.link := by
  unfold State.stopChamber
  split
  · exact (s.endAndGoOn_frame _).link
  · split
    · exact ((BlockFrame.setCham s _).link).trans (State.endUnstarted_frame _ _ _ _).link
    · exact .refl _

/-- R168: handling gives reports, an accepted Status clears the dropped count, an accepted Restart the discard counts. -/
theorem State.ownAnswer_counts (k : RequestKind) : CountsKept s.link (s.ownAnswer k b).state.link := by
  have hrefused (r : ResultCode) : CountsKept s.link (s.refuse r).state.link := .refl _
  cases k <;> unfold State.ownAnswer <;> dsimp only
  case identify => exact .refl _
  case status =>
    unfold State.answerStatus
    split
    · exact hrefused _
    · exact ⟨fun _ => Nat.zero_le _, fun _ => rfl, id⟩
  case restart =>
    unfold State.answerRestart
    split
    · exact hrefused _
    · exact ⟨id, id, fun _ => ⟨Nat.zero_le _, Nat.zero_le _, Nat.zero_le _, Nat.zero_le _, Nat.zero_le _⟩⟩
  case loadLadder =>
    unfold State.answerLoadLadder
    (repeat' split) <;> exact .refl _
  case loadParameters =>
    unfold State.answerLoadParameters
    (repeat' split) <;> exact .refl _
  case loadBaseline =>
    unfold State.answerLoadBaseline
    (repeat' split) <;> exact .refl _
  case flushTable => exact .refl _
  case startSpin =>
    unfold State.answerStartSpin
    split
    · exact .refl _
    split
    · exact .refl _
    split
    · exact .refl _
    split
    · exact .refl _
    split
    · exact .refl _
    · exact (s.beginSession_link _ _ _).counts
  case setTarget =>
    unfold State.answerSetTarget
    split
    · exact .refl _
    split
    · exact .refl _
    split
    · exact .refl _
    · exact (State.applyTarget_link (s.setSpin { s.spin with target := some (b8 b 0) }) _).counts
  case stop => exact (s.closeActive_frame .stop).link.counts
  case queryEstimate =>
    unfold State.answerQueryEstimate
    split <;> exact .refl _
  case setTrace =>
    unfold State.answerSetTrace
    split <;> exact .refl _
  case readTrace =>
    unfold State.answerReadTrace
    dsimp only
    (repeat' split) <;> exact .refl _
  case serviceEnter =>
    unfold State.answerServiceEnter
    split <;> exact .refl _
  case serviceLeave => exact (State.endAll_frame (s.setServ { s.serv with mode := false }) _).link.counts
  case examine =>
    unfold State.answerExamine
    split <;> exact .refl _
  case deposit =>
    unfold State.answerDeposit
    split
    · unfold State.answerDepositSlot
      (repeat' split) <;> exact .refl _
    split
    · unfold State.answerDepositChamber
      split
      · exact .refl _
      · exact (s.depositContent_link _ _).counts
    · exact .refl _
  case manualFill =>
    unfold State.answerManualFill
    split
    · exact .refl _
    split
    · exact .refl _
    split
    · exact .refl _
    · exact (s.takeOrder_frame _).link.counts
  case stopFill =>
    unfold State.answerStopFill
    split
    · exact hrefused _
    split
    · exact (s.endAll_frame _).link.counts
    · exact (s.stopChamber_link _).counts
  case forceBaseline =>
    unfold State.answerForceBaseline
    split <;> exact .refl _

theorem State.answerFrame_counts (f : Frame) : CountsKept s.link (s.answerFrame f).1.link := by
  unfold State.answerFrame State.answer
  split
  · dsimp only
    split
    · exact .refl _
    split
    · exact .refl _
    · exact s.ownAnswer_counts _ _
  · exact .refl _

end Answers

/-! ## The receiver -/

theorem rxOctet_ok {r : RxState} (h : r.Ok = true) (o : Octet) : (rxOctet r o).1.Ok = true := by
  cases r with
  | hunting =>
    by_cases ho : o = startOctet <;> simp [rxOctet, ho, RxState.Ok]
  | length =>
    by_cases ho : o = startOctet
    · simp [rxOctet, ho, RxState.Ok]
    · by_cases hn : 2 ≤ o.toNat ∧ o.toNat ≤ 66
      · simp only [rxOctet, if_neg ho, if_pos hn, RxState.Ok, List.length_nil, Bool.and_eq_true, decide_eq_true_eq]
        omega
      · simp [rxOctet, ho, hn, RxState.Ok]
  | content n got =>
    simp only [RxState.Ok, Bool.and_eq_true, decide_eq_true_eq] at h
    by_cases hlast : got.length + 1 < n.toNat
    · simp only [rxOctet, if_pos hlast, RxState.Ok, List.length_append, List.length_singleton, Bool.and_eq_true, decide_eq_true_eq]
      omega
    · simp only [rxOctet, if_neg hlast, RxState.Ok, List.length_append, List.length_singleton, Bool.and_eq_true,
        decide_eq_true_eq, beq_iff_eq]
      omega
  | check n got first =>
    cases first with
    | none => exact h
    | some c => rfl

theorem gapTimerOf_isSome (now : Stamp) (r : RxState) : (gapTimerOf now r).isSome = (r != .hunting) := by
  cases r <;> rfl

/-! ## The invariant of the Link Port -/

/-- What LinkOk says, but for the reply of the frame in service. -/
structure Link.Good (l : Link) : Prop where
  waiting : l.waiting.isSome = true → l.inService.isSome = true
  rx : l.rx.Ok = true
  gapTimer : l.gapTimer.isSome = (l.rx != .hunting)
  reports : l.reports.length ≤ reportRoom
  dropped : l.dropped ≤ 255
  mark : l.eventsDropped = (l.dropped != 0)
  discards : l.discards.Small

/-- The reply slot holds a reply exactly while a frame is in service, and a reply being sent is that one. -/
structure Link.Replies (l : Link) : Prop where
  slot : l.replySlot.isSome = l.inService.isSome
  sending : l.tx.any Sending.isReply = true → l.replySlot.isSome = true

theorem State.linkOk_iff (s : State) : s.LinkOk ↔ s.link.Good ∧ s.link.Replies := by
  constructor
  · rintro ⟨hslot, hwaiting, hsending, hrx, hgap, hreports, hdropped, hmark, h1, h2, h3, h4, h5⟩
    exact ⟨⟨hwaiting, hrx, hgap, hreports, hdropped, hmark, h1, h2, h3, h4, h5⟩, hslot, hsending⟩
  · rintro ⟨⟨hwaiting, hrx, hgap, hreports, hdropped, hmark, h1, h2, h3, h4, h5⟩, hslot, hsending⟩
    exact ⟨hslot, hwaiting, hsending, hrx, hgap, hreports, hdropped, hmark, h1, h2, h3, h4, h5⟩

theorem LinkFrame.good {l l' : Link} (h : LinkFrame l l') (hg : l.Good) : l'.Good := by
  refine ⟨?_, ?_, ?_, h.room hg.reports, h.count hg.dropped, h.mark hg.mark, ?_⟩
  · rw [h.waiting, h.inService]
    exact hg.waiting
  · rw [h.rx]
    exact hg.rx
  · rw [h.gapTimer, h.rx]
    exact hg.gapTimer
  · rw [h.discards]
    exact hg.discards

theorem LinkFrame.replies {l l' : Link} (h : LinkFrame l l') (hr : l.Replies) : l'.Replies := by
  constructor
  · rw [h.replySlot, h.inService]
    exact hr.slot
  · rw [h.tx, h.replySlot]
    exact hr.sending

theorem LinkFrame.linkOk {s t : State} (h : LinkFrame s.link t.link) (hs : s.LinkOk) : t.LinkOk := by
  rw [State.linkOk_iff] at hs ⊢
  exact ⟨h.good hs.1, h.replies hs.2⟩

section Ops
variable {s : State}

/-- R168, R171: handling the frame in service fills the reply slot. -/
theorem State.handle_linkOk (hg : s.link.Good) (hin : s.link.inService.isSome = true) (f : Frame) :
    (s.handle f).LinkOk := by
  have hf := s.answerFrame_frame f
  have hc := s.answerFrame_counts f
  rw [State.linkOk_iff]
  refine ⟨⟨?_, ?_, ?_, hf.room hg.reports, hc.count hg.dropped, hc.mark hg.mark, hc.discards hg.discards⟩,
    ?_, fun _ => rfl⟩
  · show (s.answerFrame f).1.link.waiting.isSome = true → (s.answerFrame f).1.link.inService.isSome = true
    rw [hf.waiting, hf.inService]
    exact hg.waiting
  · show (s.answerFrame f).1.link.rx.Ok = true
    rw [hf.rx]
    exact hg.rx
  · show (s.answerFrame f).1.link.gapTimer.isSome = ((s.answerFrame f).1.link.rx != .hunting)
    rw [hf.gapTimer, hf.rx]
    exact hg.gapTimer
  · show true = (s.answerFrame f).1.link.inService.isSome
    rw [hf.inService, hin]

theorem State.discard_linkOk (h : s.LinkOk) (r : DiscardReason) : (s.discard r).LinkOk := by
  rw [State.linkOk_iff] at h ⊢
  obtain ⟨hg, hr⟩ := h
  exact ⟨⟨hg.waiting, hg.rx, hg.gapTimer, hg.reports, hg.dropped, hg.mark, hg.discards.count r⟩, hr.slot,
    hr.sending⟩

theorem State.offerFrame_linkOk (h : s.LinkOk) (f : Frame) : (s.offerFrame f).LinkOk := by
  obtain ⟨hg, hr⟩ := s.linkOk_iff.1 h
  unfold State.offerFrame
  split
  next hin =>
    exact State.handle_linkOk (s := s.setLink { s.link with inService := some f })
      ⟨fun _ => rfl, hg.rx, hg.gapTimer, hg.reports, hg.dropped, hg.mark, hg.discards⟩ rfl f
  next hin =>
    split
    · rw [State.linkOk_iff]
      exact ⟨⟨fun _ => by rw [State.setLink_link]; exact hin ▸ rfl, hg.rx, hg.gapTimer, hg.reports, hg.dropped,
        hg.mark, hg.discards⟩, hr.slot, hr.sending⟩
    · exact State.discard_linkOk h _

theorem State.setRx_linkOk (h : s.LinkOk) {r : RxState} (hr : r.Ok = true) :
    (s.setLink (s.link.setRx s.time r)).LinkOk := by
  obtain ⟨hg, hrep⟩ := s.linkOk_iff.1 h
  rw [State.linkOk_iff]
  exact ⟨⟨hg.waiting, hr, gapTimerOf_isSome _ _, hg.reports, hg.dropped, hg.mark, hg.discards⟩, hrep.slot,
    hrep.sending⟩

theorem State.receive_linkOk (h : s.LinkOk) (o : Octet) : (s.receive o).LinkOk := by
  have hrx := State.setRx_linkOk h (rxOctet_ok (s.linkOk_iff.1 h).1.rx o)
  unfold State.receive State.rxEvent
  split
  · exact hrx
  · exact State.discard_linkOk hrx _
  · exact State.offerFrame_linkOk hrx _

theorem State.dropAssembly_linkOk (h : s.LinkOk) (r : DiscardReason) : (s.dropAssembly r).LinkOk := by
  unfold State.dropAssembly
  split
  · exact h
  · exact State.discard_linkOk (State.setRx_linkOk h rfl) r

/-- R167: the frame in service leaves the buffer, and the waiting one is handled. -/
theorem State.serviceDone_linkOk (hg : s.link.Good) (hfree : s.link.tx = none) : s.serviceDone.LinkOk := by
  unfold State.serviceDone
  dsimp only
  cases hw : s.link.waiting with
  | none =>
    rw [State.linkOk_iff]
    exact ⟨⟨(nomatch ·), hg.rx, hg.gapTimer, hg.reports, hg.dropped, hg.mark, hg.discards⟩, rfl, fun hs => by
      rw [State.setLink_link, hfree] at hs
      exact nomatch hs⟩
  | some f =>
    exact State.handle_linkOk (s := s.setLink { s.link with replySlot := none, inService := some f, waiting := none })
      ⟨(nomatch ·), hg.rx, hg.gapTimer, hg.reports, hg.dropped, hg.mark, hg.discards⟩ rfl f

/-- R167, R172: the end of a reply ends the service of its frame. -/
theorem State.frameEnds_linkOk (h : s.LinkOk) : s.frameEnds.LinkOk := by
  obtain ⟨hg, hr⟩ := s.linkOk_iff.1 h
  have hfreed : (s.setLink { s.link with tx := none }).link.Good :=
    ⟨hg.waiting, hg.rx, hg.gapTimer, hg.reports, hg.dropped, hg.mark, hg.discards⟩
  unfold State.frameEnds
  split
  · exact h
  · dsimp only
    split
    · exact State.serviceDone_linkOk hfreed rfl
    · rw [State.linkOk_iff]
      exact ⟨hfreed, hr.slot, fun hs => nomatch hs⟩

theorem State.arbitrate_linkOk (h : s.LinkOk) : s.arbitrate.LinkOk := by
  obtain ⟨hg, hr⟩ := s.linkOk_iff.1 h
  unfold State.arbitrate
  split
  · exact h
  · split
    next r _ hslot =>
      rw [State.linkOk_iff]
      exact ⟨⟨hg.waiting, hg.rx, hg.gapTimer, hg.reports, hg.dropped, hg.mark, hg.discards⟩, hr.slot,
        fun _ => by rw [State.setLink_link]; exact hslot ▸ rfl⟩
    next e rest hslot hreports =>
      rw [State.linkOk_iff]
      refine ⟨⟨hg.waiting, hg.rx, hg.gapTimer, ?_, hg.dropped, hg.mark, hg.discards⟩, hr.slot, fun hs => nomatch hs⟩
      have hroom := hg.reports
      rw [hreports] at hroom
      exact Nat.le_trans (Nat.le_succ _) hroom
    next =>
      rw [State.linkOk_iff]
      exact ⟨⟨hg.waiting, hg.rx, hg.gapTimer, hg.reports, hg.dropped, hg.mark, hg.discards⟩, hr.slot,
        fun hs => nomatch hs⟩
    next => exact h

/-- R172, R183: the transmitter's choice leaves nothing waiting for a free transmitter. -/
theorem State.arbitrate_senderOk (s : State) : s.arbitrate.SenderOk := by
  unfold State.arbitrate
  split
  next htx =>
    intro hfree
    rw [hfree] at htx
    exact nomatch htx
  next =>
    split
    next => exact fun hfree => nomatch hfree
    next => exact fun hfree => nomatch hfree
    next => exact fun hfree => nomatch hfree
    next hslot hreports hnone =>
      refine fun _ => ⟨hslot, hreports, fun hpush => ?_⟩
      cases hqueue : s.trace.queue with
      | nil => rfl
      | cons q rest => exact (hnone q rest hpush hqueue).elim

/-! ## Every step keeps the Link Port -/

theorem BlockFrame.linkOk {t : State} (h : BlockFrame s t) (hs : s.LinkOk) : t.LinkOk := h.link.linkOk hs

theorem State.whenDue_linkOk (h : s.LinkOk) (t : Option Timer) {e : State → State} (he : (e s).LinkOk) :
    (s.whenDue t e).LinkOk := by
  unfold State.whenDue
  split
  · exact he
  · exact h

theorem State.svcFalls_linkOk (h : s.LinkOk) : s.svcFalls.LinkOk := by
  unfold State.svcFalls
  dsimp only
  split
  · exact LinkFrame.linkOk (State.endAll_frame ((s.setPins { s.pins with svc := false }).setServ
      { s.serv with mode := false }) .stopped).link h
  · exact h

theorem State.powerOn_linkOk (lsel : Bool) (pins : Pins) (draw : Nat) (pending : List Instr) :
    (State.powerOn lsel pins draw pending).LinkOk :=
  ⟨rfl, (nomatch ·), (nomatch ·), rfl, rfl, Nat.zero_le _, Nat.zero_le _, rfl, Nat.zero_le _,
    Nat.zero_le _, Nat.zero_le _, Nat.zero_le _, Nat.zero_le _⟩

theorem ownEffect_linkOk (h : s.LinkOk) (c : Instr) : (c.ownEffect s).LinkOk := by
  cases c
  case powerOnReset w l => exact State.powerOn_linkOk ..
  case indexEdge w b => exact (s.indexEdge_frame b).linkOk h
  case slotEdge w => exact s.slotEdge_frame.linkOk h
  case pairingWindowExpiry w => exact State.whenDue_linkOk h _ h
  case pendingPairingExpiry w => exact State.whenDue_linkOk h _ (s.joinPending_frame.linkOk h)
  case readComplete w x y =>
    exact State.whenDue_linkOk h (e := fun s => s.readComplete x y) _ ((s.readComplete_frame x y).linkOk h)
  case conversionComplete w code =>
    exact State.whenDue_linkOk h (e := fun s => s.conversionComplete code) _
      ((s.conversionComplete_frame code).linkOk h)
  case standstillExpiry w => exact State.whenDue_linkOk h _ (s.standstill_frame.linkOk h)
  case dfltAsserted w =>
    exact LinkFrame.linkOk (State.abortOn_frame (s.setPins { s.pins with dflt := true }) .drive).link h
  case flowPulse w => exact BlockFrame.linkOk s.flowPulse_frame h
  case svcFalling w => exact State.svcFalls_linkOk h
  case octetReceived w o => exact State.receive_linkOk h o
  case lineError w => exact State.dropAssembly_linkOk h _
  case gapTimerExpiry w =>
    exact State.whenDue_linkOk h (e := fun s => s.dropAssembly .gap) _ (State.dropAssembly_linkOk h _)
  case frameSent w => exact State.frameEnds_linkOk h
  case weighLimitExpiry w => exact State.whenDue_linkOk h _ (BlockFrame.linkOk s.weighLimit_frame h)
  case rampTimeout w => exact State.whenDue_linkOk h _ (BlockFrame.linkOk s.rampTimeout_frame h)
  case sessionTimerExpiry w => exact State.whenDue_linkOk h _ (BlockFrame.linkOk s.durationEnds_frame h)
  case clearExpiry w => exact State.whenDue_linkOk h _ (BlockFrame.linkOk s.clearStep_frame h)
  case bleedExpiry w => exact State.whenDue_linkOk h _ (BlockFrame.linkOk s.bleed_frame h)
  case supplyTimeout w => exact State.whenDue_linkOk h _ (BlockFrame.linkOk s.supplyTimeout_frame h)
  all_goals exact h

theorem effect_linkOk (h : s.LinkOk) (c : Instr) : (c.effect s).LinkOk := by
  unfold Instr.effect
  split
  · exact State.offerFrame_linkOk h _
  · exact ownEffect_linkOk h c

end Ops

/-- Settles O7. -/
theorem stepKeepsLink : Obligations.StepKeepsLink := by
  unfold Obligations.StepKeepsLink
  intro s t hlink hsender hstep
  obtain rfl | ⟨c, rest, rfl⟩ := step_next hstep
  · exact ⟨hlink, hsender⟩
  · have heffect : (c.effect ((s.setPending rest).begin c.wait)).LinkOk :=
      effect_linkOk (s := (s.setPending rest).begin c.wait) hlink c
    exact ⟨State.arbitrate_linkOk heffect, State.arbitrate_senderOk _⟩

end Sys2Proof.Machine
end

section
/-! The Link Port's events (O13 to O17) and what a report or a trace record does to its queue (O58). -/

namespace Sys2Proof.Machine

/-! ## What an event comes to -/

theorem State.dropAssembly_hunting {s : State} (h : s.link.rx = .hunting) (r : DiscardReason) :
    s.dropAssembly r = s := by
  rw [State.dropAssembly, h]

theorem State.dropAssembly_receiving {s : State} (h : s.link.rx ≠ .hunting) (r : DiscardReason) :
    s.dropAssembly r =
      s.setLink { s.link with rx := .hunting, gapTimer := none, discards := s.link.discards.count r } := by
  unfold State.dropAssembly
  split
  next hrx => exact absurd hrx h
  next => rfl

theorem exec_lineError (w : Wait) (s : State) :
    exec (.lineError w) s = .next ((s.begin w).dropAssembly .line).arbitrate := exec_eq _ _

theorem exec_gapTimerExpiry (w : Wait) (s : State) : exec (.gapTimerExpiry w) s =
    .next ((s.begin w).whenDue s.link.gapTimer (fun s => s.dropAssembly .gap)).arbitrate := exec_eq _ _

theorem exec_octetReceived (w : Wait) (o : Octet) (s : State) :
    exec (.octetReceived w o) s = .next ((s.begin w).receive o).arbitrate := exec_eq _ _

/-- Settles O14. -/
theorem lineErrorAndGapDropTheFrame : Obligations.LineErrorAndGapDropTheFrame := by
  unfold Obligations.LineErrorAndGapDropTheFrame
  intro w s
  dsimp only
  have hdropped (h : s.link.rx ≠ .hunting) := State.dropAssembly_receiving (s := s.begin w) h
  refine ⟨fun h => ⟨?_, ?_⟩, fun h => ?_, fun h hdue => ?_, fun hearly => ?_, fun line h => ?_⟩
  · rw [exec_lineError, State.dropAssembly_hunting (s := s.begin w) h]
  · rw [exec_gapTimerExpiry, State.whenDue]
    rw [State.dropAssembly_hunting (s := s.begin w) h, ite_self]
  · rw [exec_lineError, hdropped h]
    rfl
  · rw [exec_gapTimerExpiry, State.whenDue_due _ hdue, hdropped h]
    rfl
  · rw [exec_gapTimerExpiry, State.whenDue_early _ hearly]
  · rw [exec_lineError, State.lineEvent_low _ h]

/-- R164: OCTET_RECEIVED, by what the receiver makes of the octet. -/
theorem exec_octet {s : State} {o : Octet} (w : Wait) (r : RxState) (e : RxEvent)
    (h : rxOctet s.link.rx o = (r, e)) : exec (.octetReceived w o) s =
      .next (((s.begin w).setLink (s.link.setRx (s.begin w).time r)).rxEvent e).arbitrate := by
  have hrx : rxOctet (s.begin w).link.rx o = (r, e) := h
  rw [exec_octetReceived, State.receive, hrx]
  rfl

/-- Settles O13, from what the receiver makes of the octet in each of its states. -/
theorem octetMovesTheReceiver : Obligations.OctetMovesTheReceiver := by
  unfold Obligations.OctetMovesTheReceiver
  intro w o s
  refine ⟨fun h ho => ?_, fun h ho => exec_octet w .length .quiet ?_,
    fun h ho => exec_octet w .length (.discard .length) ?_,
    fun h h1 h2 => exec_octet w (.content o []) .quiet ?_,
    fun h ho hn => exec_octet w .hunting (.discard .length) ?_,
    fun n got h hn => exec_octet w (.content n (got ++ [o])) .quiet ?_,
    fun n got h hn => exec_octet w (.check n (got ++ [o]) none) .quiet ?_,
    fun n got h => exec_octet w (.check n got (some o)) .quiet ?_,
    fun n got hi h hcrc => exec_octet w .hunting (.discard .crc) ?_,
    fun n kind tag body hi h hcrc => exec_octet w .hunting (.frame ⟨kind, tag, body⟩) ?_, fun line h => ?_⟩
  · rw [exec_octet w .hunting .quiet (by rw [h, rxOctet, startOctet, if_neg ho])]
    simp [State.rxEvent, Link.setRx, gapTimerOf, h]
  · rw [h, rxOctet, startOctet, if_pos ho]
  · rw [h, rxOctet, startOctet, if_pos ho]
  · have hne : o ≠ startOctet := by
      rintro rfl
      exact absurd h2 (by decide)
    rw [h, rxOctet, if_neg hne, if_pos ⟨h1, h2⟩]
  · rw [h, rxOctet, startOctet, if_neg ho, if_neg (by omega)]
  · rw [h, rxOctet, if_pos hn]
  · rw [h, rxOctet, if_neg (by omega)]
  · rw [h, rxOctet]
  · rw [h, rxOctet, if_neg hcrc]
  · rw [h, rxOctet, if_pos hcrc]
    rfl
  · rw [exec_octetReceived, State.lineEvent, h]

/-! ## The receive buffer and the transmitter -/

/-- R171: a reply carries the tag of its frame. -/
theorem State.answerFrame_tag (s : State) (f : Frame) : (s.answerFrame f).2.tag = f.tag := by
  unfold State.answerFrame
  cases requestOf f.kind <;> rfl

/-- Settles O15. -/
theorem offeredFrameIsHandledHeldOrDiscarded : Obligations.OfferedFrameIsHandledHeldOrDiscarded := by
  unfold Obligations.OfferedFrameIsHandledHeldOrDiscarded
  intro c f s hc
  have hheld (g : Frame) (h : s.link.inService = some g) (hw : s.link.waiting = none) :=
    State.offerFrame_wait (s.begin c.wait) f g h hw
  refine ⟨fun h => ?_, fun k h hk => ?_, fun h hw => ?_, fun h hw => ?_⟩
  · refine ⟨_, _, rfl, State.answerFrame_tag _ f, ?_⟩
    rw [exec_of_frame hc, State.offerFrame_empty (s.begin c.wait) f h]
    rfl
  · rw [exec_of_frame hc, State.offerFrame_empty (s.begin c.wait) f h]
    unfold State.handle State.answerFrame
    rw [hk]
    rfl
  · obtain ⟨g, hg⟩ := Option.isSome_iff_exists.1 h
    rw [exec_of_frame hc, hheld g hg hw]
    rfl
  · obtain ⟨g, hg⟩ := Option.isSome_iff_exists.1 h
    obtain ⟨g2, hg2⟩ := Option.isSome_iff_exists.1 hw
    rw [exec_of_frame hc, State.offerFrame_full (s.begin c.wait) f g g2 hg hg2]
    rfl

theorem exec_frameSent (w : Wait) (s : State) :
    exec (.frameSent w) s = .next (s.begin w).frameEnds.arbitrate := exec_eq _ _

theorem State.frameEnds_idle {s : State} (h : s.link.tx = none) : s.frameEnds = s := by
  rw [State.frameEnds, h]

theorem State.frameEnds_report {s : State} {f : Frame} (h : s.link.tx = some ⟨f, false⟩) :
    s.frameEnds = s.setLink { s.link with tx := none } := by
  rw [State.frameEnds, h]
  rfl

theorem State.frameEnds_reply {s : State} {f : Frame} (h : s.link.tx = some ⟨f, true⟩) :
    s.frameEnds = (s.setLink { s.link with tx := none }).serviceDone := by
  rw [State.frameEnds, h]
  rfl

theorem State.serviceDone_alone {s : State} (h : s.link.waiting = none) :
    s.serviceDone = s.setLink { s.link with replySlot := none, inService := none, waiting := none } := by
  rw [State.serviceDone, h]

theorem State.serviceDone_next {s : State} {g : Frame} (h : s.link.waiting = some g) :
    s.serviceDone =
      (s.setLink { s.link with replySlot := none, inService := some g, waiting := none }).handle g := by
  rw [State.serviceDone, h]

/-- Settles O16. -/
theorem frameSentEndsTheService : Obligations.FrameSentEndsTheService := by
  unfold Obligations.FrameSentEndsTheService
  intro w s
  refine ⟨fun h => ?_, fun f h => ?_, fun f h hw => ?_, fun f g h hw => ?_⟩
  · rw [exec_frameSent, State.frameEnds_idle (s := s.begin w) h]
  · rw [exec_frameSent, State.frameEnds_report (s := s.begin w) h]
    rfl
  · rw [exec_frameSent, State.frameEnds_reply (s := s.begin w) h, State.serviceDone_alone (by exact hw), ← hw]
    rfl
  · rw [exec_frameSent, State.frameEnds_reply (s := s.begin w) h, State.serviceDone_next (by exact hw)]
    rfl

/-- Settles O17. -/
theorem transmitterOrder : Obligations.TransmitterOrder := by
  unfold Obligations.TransmitterOrder
  refine fun s => ⟨s.arbitrate_busy, fun hfree => ⟨fun r hr => s.arbitrate_reply hfree hr,
    fun e rest hslot hreports => s.arbitrate_report hfree hslot hreports,
    fun q rest hslot hreports hpush hqueue => s.arbitrate_trace hfree hslot hreports hpush hqueue,
    fun hslot hreports hnone => ?_⟩⟩
  unfold State.arbitrate
  rw [if_neg (by rw [hfree]; decide), hslot, hreports]
  obtain hpush | hqueue := hnone
  · rw [hpush]
  · rw [hqueue]
    cases s.trace.push <;> rfl

/-! ## Trace records -/

/-- Settles O58. -/
theorem traceRecordsEnterOrAreCounted : Obligations.TraceRecordsEnterOrAreCounted := by
  unfold Obligations.TraceRecordsEnterOrAreCounted
  intro s r
  refine ⟨fun hidle => ?_, fun hspin hon hroom => ?_, fun hspin hfull => ?_⟩
  · rw [State.traceRevolution, if_pos hidle]
  · rw [State.traceRevolution, if_neg hspin, TraceQueue.offer, if_pos (by simp [hon, hroom, traceRoom])]
    rfl
  · rw [State.traceRevolution, if_neg hspin, TraceQueue.offer, if_neg]
    · rfl
    · obtain hoff | hmany := hfull
      · simp [hoff]
      · have hroom : ¬ s.trace.queue.length < traceRoom := Nat.not_lt.2 hmany
        simp [hroom]

end Sys2Proof.Machine
end

section
/-! The states after reset and after Restart (O3, O27, O28). -/

namespace Sys2Proof.Machine

/-- R172: with nothing waiting for it a free transmitter stays free. -/
theorem State.arbitrate_nothing {s : State} (hfree : s.link.tx = none) (hslot : s.link.replySlot = none)
    (hreports : s.link.reports = []) (hqueue : s.trace.queue = []) : s.arbitrate = s :=
  ((transmitterOrder s).2 hfree).2.2.2 hslot hreports (.inr hqueue)

/-- Settles O28. -/
theorem powerOnResetClearsThePart : Obligations.PowerOnResetClearsThePart := by
  unfold Obligations.PowerOnResetClearsThePart
  intro w lsel s
  have hexec : exec (.powerOnReset w lsel) s = .next ((s.begin w).powerOnReset lsel).arbitrate := exec_eq _ _
  rw [hexec, State.arbitrate_nothing rfl rfl rfl rfl]
  rfl

/-- Settles O3. -/
theorem resetIsSound : Obligations.ResetIsSound := by
  unfold Obligations.ResetIsSound State.Sound
  refine ⟨?_, ?_, ?_, ?_, ?_, ?_, ?_, ?_, ?_, ?_, ?_, ?_⟩
  · decide
  · decide
  · decide
  · decide
  · decide
  · decide
  · decide
  · decide
  · decide
  · decide
  · decide
  · decide

end Sys2Proof.Machine
end

section
/-! A request handled at once: its frame enters service, the request is answered, and the reply takes its slot. What a request
does to the other blocks does not depend on the frame in service, so it can be stated on the state before. -/

namespace Sys2Proof.Machine

/-! ## The next order (R145) -/

section
variable (s : State) {o : Order} {rest : List Order}

theorem State.startFrom_skips (h : min o.amount (s.cham.room o.chamber) = 0) :
    s.startFrom (o :: rest) = (s.endUnstarted { o with amount := 0 } .capacity []).startFrom rest := by
  rw [State.startFrom]
  exact if_pos h

theorem State.startFrom_starts (h : min o.amount (s.cham.room o.chamber) ≠ 0) :
    s.startFrom (o :: rest) = s.setCham ({ s.cham with queue := rest }.startOrder s.time
      s.spin.par.supplyTimeout { o with amount := min o.amount (s.cham.room o.chamber) }) := by
  rw [State.startFrom]
  exact if_neg h

theorem State.startNext_busy (h : s.cham.flight.isSome = true) : s.startNext = s := if_pos h

theorem State.startNext_free (h : s.cham.flight = none) : s.startNext = s.startFrom s.cham.queue :=
  if_neg (by simp [h])

theorem State.lineClosed_busy (h : s.cham.flight.isSome = true) : s.lineClosed = s := if_pos h

theorem State.lineClosed_free (h : s.cham.flight = none) :
    s.lineClosed = s.setCham { s.cham with leak := 0 } := if_neg (by simp [h])

end

/-! ## The frame in service -/

/-- The state with a frame taken into service (R167). -/
def State.serving (s : State) (f : Frame) : State := s.setLink { s.link with inService := some f }

section
variable (s : State) (f : Frame)

@[simp] theorem State.serving_time : (s.serving f).time = s.time := rfl
@[simp] theorem State.serving_pins : (s.serving f).pins = s.pins := rfl
@[simp] theorem State.serving_rot : (s.serving f).rot = s.rot := rfl
@[simp] theorem State.serving_samp : (s.serving f).samp = s.samp := rfl
@[simp] theorem State.serving_est : (s.serving f).est = s.est := rfl
@[simp] theorem State.serving_weigh : (s.serving f).weigh = s.weigh := rfl
@[simp] theorem State.serving_table : (s.serving f).table = s.table := rfl
@[simp] theorem State.serving_spin : (s.serving f).spin = s.spin := rfl
@[simp] theorem State.serving_cham : (s.serving f).cham = s.cham := rfl
@[simp] theorem State.serving_trace : (s.serving f).trace = s.trace := rfl
@[simp] theorem State.serving_serv : (s.serving f).serv = s.serv := rfl

theorem State.replied_eq (r : Reply) : s.replied f r =
    (s.serving f).setLink { (s.serving f).link with replySlot := some r } := rfl

/-! ## What requests do goes on whatever frame is in service -/

theorem State.serving_setPins (v : Pins) : (s.serving f).setPins v = (s.setPins v).serving f := rfl
theorem State.serving_setSamp (v : Sampler) : (s.serving f).setSamp v = (s.setSamp v).serving f := rfl
theorem State.serving_setEst (v : Estimator) : (s.serving f).setEst v = (s.setEst v).serving f := rfl
theorem State.serving_setWeigh (v : Weigh) : (s.serving f).setWeigh v = (s.setWeigh v).serving f := rfl
theorem State.serving_setTable (v : Table) : (s.serving f).setTable v = (s.setTable v).serving f := rfl
theorem State.serving_setSpin (v : Spin) : (s.serving f).setSpin v = (s.setSpin v).serving f := rfl
theorem State.serving_setCham (v : ChamberCtl) : (s.serving f).setCham v = (s.setCham v).serving f := rfl
theorem State.serving_setTrace (v : TraceQueue) : (s.serving f).setTrace v = (s.setTrace v).serving f := rfl
theorem State.serving_setServ (v : Service) : (s.serving f).setServ v = (s.setServ v).serving f := rfl

theorem State.serving_report (r : Report) : giveReport r (s.serving f) = (giveReport r s).serving f := by
  obtain h | h := Nat.lt_or_ge s.link.reports.length reportRoom
  · rw [giveReport, giveReport, Link.giveReport_room h, Link.giveReport_room (l := (s.serving f).link) h]
    rfl
  · rw [giveReport, giveReport, Link.giveReport_full h, Link.giveReport_full (l := (s.serving f).link) h]
    rfl

theorem State.serving_handEnd (o : Order) (g : Nat) (r : EndReason) :
    (s.serving f).handEnd o g r = (s.handEnd o g r).serving f := by
  rw [State.handEnd_eq, State.handEnd_eq]
  rfl

theorem State.serving_handDropped (r : EndReason) (os : List Order) :
    (s.serving f).handDropped r os = (s.handDropped r os).serving f := by
  induction os generalizing s with
  | nil => rfl
  | cons o rest ih => rw [State.handDropped, State.handDropped, s.serving_handEnd, ih]

theorem State.serving_endUnstarted (o : Order) (r : EndReason) (os : List Order) :
    (s.serving f).endUnstarted o r os = (s.endUnstarted o r os).serving f := by
  unfold State.endUnstarted
  simp only [State.serving_setCham, State.serving_cham, State.serving_report, State.serving_handEnd,
    State.serving_handDropped]

theorem State.serving_endAll (r : EndReason) : (s.serving f).endAll r = (s.endAll r).serving f := by
  cases h : s.cham.flight with
  | none => rw [State.endAll_none (s.serving f) h, s.endAll_none h]
  | some g =>
    rw [State.endAll_eq (s.serving f) h, s.endAll_eq h]
    simp only [State.serving_setCham, State.serving_cham, State.serving_report, State.serving_handEnd,
      State.serving_handDropped]

theorem State.serving_startFrom (os : List Order) : (s.serving f).startFrom os = (s.startFrom os).serving f := by
  induction os generalizing s with
  | nil => rfl
  | cons o rest ih =>
    by_cases h : min o.amount (s.cham.room o.chamber) = 0
    · rw [State.startFrom_skips _ h, State.startFrom_skips (s.serving f) h, State.serving_endUnstarted, ih]
    · rw [State.startFrom_starts _ h, State.startFrom_starts (s.serving f) h]
      rfl

theorem State.serving_startNext : (s.serving f).startNext = s.startNext.serving f := by
  cases h : s.cham.flight with
  | none => rw [s.startNext_free h, State.startNext_free (s.serving f) h, State.serving_startFrom, State.serving_cham]
  | some g => rw [s.startNext_busy (h ▸ rfl), State.startNext_busy (s.serving f) (h ▸ rfl)]

theorem State.serving_lineClosed : (s.serving f).lineClosed = s.lineClosed.serving f := by
  cases h : s.cham.flight with
  | none =>
    rw [s.lineClosed_free h, State.lineClosed_free (s.serving f) h]
    rfl
  | some g => rw [s.lineClosed_busy (h ▸ rfl), State.lineClosed_busy (s.serving f) (h ▸ rfl)]

theorem State.serving_endAndGoOn (r : EndReason) : (s.serving f).endAndGoOn r = (s.endAndGoOn r).serving f := by
  cases h : s.cham.flight with
  | none => simp [State.endAndGoOn, h]
  | some g =>
    rw [State.endAndGoOn_eq (s.serving f) h, s.endAndGoOn_eq h]
    have hover : (s.serving f).flightOver g r = (s.flightOver g r).serving f := by
      unfold State.flightOver
      simp only [State.serving_setCham, State.serving_cham, State.serving_report]
    rw [hover, State.serving_handEnd, State.serving_startNext, State.serving_lineClosed]

end

/-! ## The command that brings a request -/

section
variable {c : Instr} {f : Frame} {s : State} {k : RequestKind}

theorem State.answer_eq (hlength : k.lengthOk f.body = true) (hmode : s.modeOk k = true) :
    s.answer k f.body = s.ownAnswer k f.body := by
  simp [State.answer, hlength, hmode]

/-- R167, R168, R171: a request that comes while the buffer is empty, by what it answers. -/
theorem exec_request (hc : c.frame = some f) (hempty : s.link.inService = none) (hk : requestOf f.kind = some k)
    (hlength : k.lengthOk f.body = true) (hmode : (s.begin c.wait).modeOk k = true) {t : State} {r : ResultCode}
    {fields : List Octet}
    (hanswer : ((s.begin c.wait).serving f).ownAnswer k f.body = ⟨t.serving f, r, fields⟩) :
    exec c s = .next (t.replied f ⟨f.kind + 0x40, f.tag, r, fields⟩).arbitrate := by
  rw [(offeredFrameIsHandledHeldOrDiscarded c f s hc).2.1 k hempty hk]
  have hall : ((s.begin c.wait).serving f).answer k f.body = ⟨t.serving f, r, fields⟩ := by
    rw [State.answer_eq hlength (by exact hmode), hanswer]
  rw [show (s.begin c.wait).setLink { s.link with inService := some f } = (s.begin c.wait).serving f from rfl, hall]
  rfl

end

end Sys2Proof.Machine
end

section
/-! The octets of fields and reports (O18), and what a field read back from its octets gives. -/

namespace Sys2Proof.Machine

/-! ## Fields -/

@[simp] theorem u8_toNat (n : Nat) : (u8 n).toNat = n % 256 := BitVec.toNat_ofNat _ _

@[simp] theorem u8_octet (o : Octet) : u8 o.toNat = o := BitVec.ofNat_toNat _ _ |>.trans (BitVec.setWidth_eq _)

theorem u8_toNat_lt {n : Nat} (h : n < 256) : (u8 n).toNat = n := by rw [u8_toNat, Nat.mod_eq_of_lt h]

theorem flagBits_testBit (bits : List Bool) (i : Nat) : (flagBits bits).testBit i = bits.getD i false := by
  induction bits generalizing i with
  | nil => simp [flagBits]
  | cons b rest ih =>
    cases i with
    | zero => cases b <;> simp [flagBits, Nat.testBit_zero, Nat.add_mod]
    | succ i =>
      have hhalf : ((if b = true then 1 else 0) + 2 * flagBits rest) / 2 = flagBits rest := by
        split <;> omega
      rw [flagBits, Nat.testBit_succ, hhalf, ih]
      rfl

/-- R196: a flag octet's bits. -/
theorem flagOctet_bit (bits : List Bool) {i : Nat} (h : i < 8) :
    (flagOctet bits).getLsbD i = bits.getD i false := by
  rw [flagOctet, u8, BitVec.getLsbD_ofNat, flagBits_testBit]
  simp [h]

/-- A bit of a body's octet. -/
theorem flagBit_eq (b : List Octet) (n i : Nat) : flagBit b n i = (b.getD n 0).getLsbD i := by
  rw [flagBit, b8, BitVec.getLsbD, Nat.testBit_eq_decide_div_mod_eq]

/-- An octet of value 3 or less is its two low bits. -/
theorem flagOctet_pair {o : Octet} (h : o.toNat ≤ 3) : flagOctet [o.getLsbD 0, o.getLsbD 1] = o := by
  apply BitVec.eq_of_toNat_eq
  have hlow : o.getLsbD 0 = decide (o.toNat % 2 = 1) := by simp [BitVec.getLsbD, Nat.testBit_zero]
  have hhigh : o.getLsbD 1 = decide (o.toNat / 2 % 2 = 1) := by
    rw [BitVec.getLsbD, Nat.testBit_eq_decide_div_mod_eq]
  rw [flagOctet, u8_toNat, hlow, hhigh]
  simp only [flagBits, decide_eq_true_eq]
  split <;> split <;> omega

theorem u32_eq (n : Nat) : u32 n = [u8 (n / 256 ^ 3), u8 (n / 256 ^ 2), u8 (n / 256), u8 n] := by
  rfl

theorem i16_eq (v : Int) : i16 v = u16 (v % 65536).toNat := by
  rw [i16, BitVec.toNat_ofInt]
  rfl

/-- A two-octet field read back. -/
theorem val16_u16 {n : Nat} (h : n < 65536) (rest : List Octet) : b16 (u16 n ++ rest) 0 = n :=
  val16_u8 h

/-! ## Reports -/

theorem droppedOctets_eq (os : List Order) :
    droppedOctets os = os.flatMap (fun o => u8 o.chamber.val :: u16 o.amount) := by
  induction os with
  | nil => rfl
  | cons o rest ih => rw [droppedOctets, ih, List.flatMap_cons]

theorem boolOctet_isNone {α : Type} (x : Option α) : boolOctet x.isNone = if x.isSome then 0 else 1 := by
  cases x <;> rfl

theorem boolOctet_not (b : Bool) : boolOctet (!b) = if b then 0 else 1 := by
  cases b <;> rfl

theorem meanOctets_eq (x : Option MeanCount) :
    meanOctets x = u16 ((x.map MeanCount.mean).getD 0) ++ u16 ((x.map MeanCount.count).getD 0) := by
  cases x <;> rfl

theorem saturate_eq {lo hi : Int} (h : lo ≤ hi) (v : Int) : saturate lo hi v = max lo (min hi v) := by
  unfold saturate
  (repeat' split) <;> omega

/-- Settles O18. -/
theorem reportsJoinOrAreDropped : Obligations.ReportsJoinOrAreDropped := by
  unfold Obligations.ReportsJoinOrAreDropped
  refine ⟨fun r s => ⟨fun h => by rw [giveReport, Link.giveReport_room h],
    fun h => by rw [giveReport, Link.giveReport_full h, countUp]⟩, fun r => rfl, fun r => ?_, fun r => ?_, fun r => rfl,
    fun r => rfl, fun r => ?_, fun r => rfl, fun r => ?_, fun r => ?_, fun r => rfl,
    fun n => ⟨u8_toNat n, rfl, u32_eq n⟩, i16_eq, fun p => rfl, fun bits i h => flagOctet_bit bits h,
    ⟨rfl, fun i => rfl⟩, rfl, rfl, rfl, fun c => ?_, rfl, rfl, rfl, rfl, rfl, rfl, rfl, rfl, rfl⟩
  · simp only [Report.frame, WeighedReport.body, meanOctets_eq]
  · simp only [Report.frame, DecisionReport.body, boolOctet_isNone, boolOctet_not,
      saturate_eq (by decide : (-32768 : Int) ≤ 32767)]
  · simp only [Report.frame, FillEndReport.body, droppedOctets_eq]
  · simp only [Report.frame, TableErrorReport.body, boolOctet_isNone, pairOctets]
  · cases r <;> rfl
  · cases c <;> rfl

end Sys2Proof.Machine
end

section
/-! Refusals (O19) and the requests of the trace, the table and Restart (O22, O26, O27). -/

namespace Sys2Proof.Machine

/-! ## Refusals -/

/-- What R170 and R156 say of an answer that is not OK. -/
def Answer.RefusesCleanly (a : Answer) (s : State) : Prop :=
  a.result ≠ .ok →
    (a.result ≠ .supplyFault → a.state = s
      ∧ a.fields = if a.result = .noProfile then [s.profileMarks] else [])
    ∧ (a.result = .supplyFault → ∃ f, s.cham.pendingFault = some f
      ∧ a.state = s.setCham { s.cham with pendingFault := none } ∧ a.fields = f.octets)

section
variable (s : State) (b : List Octet)

theorem State.accept_refusesCleanly (t : State) (fields : List Octet) : (t.accept fields).RefusesCleanly s :=
  fun h => absurd rfl h

theorem State.refuse_refusesCleanly {r : ResultCode} (hprofile : r ≠ .noProfile) (hsupply : r ≠ .supplyFault) :
    (s.refuse r).RefusesCleanly s :=
  fun _ => ⟨fun _ => ⟨rfl, (if_neg hprofile).symm⟩, fun h => absurd h hsupply⟩

theorem State.refuseSupply_refusesCleanly {f : SupplyFault} (h : s.cham.pendingFault = some f) :
    (s.refuseSupply f).RefusesCleanly s :=
  fun _ => ⟨fun hne => absurd rfl hne, fun _ => ⟨f, h, rfl, rfl⟩⟩

theorem State.noProfile_refusesCleanly : (Answer.mk s .noProfile [s.profileMarks]).RefusesCleanly s :=
  fun _ => ⟨fun _ => ⟨rfl, rfl⟩, fun h => nomatch h⟩

/-- R170: the request's own checks refuse without a trace, a pending supply fault aside. -/
theorem State.ownAnswer_refusesCleanly (k : RequestKind) : (s.ownAnswer k b).RefusesCleanly s := by
  have haccept := s.accept_refusesCleanly
  have hrange := s.refuse_refusesCleanly (r := .range) (by decide) (by decide)
  have hcombination := s.refuse_refusesCleanly (r := .combination) (by decide) (by decide)
  have hstate := s.refuse_refusesCleanly (r := .state) (by decide) (by decide)
  have hready := s.refuse_refusesCleanly (r := .notReady) (by decide) (by decide)
  cases k <;> unfold State.ownAnswer <;> dsimp only
  case identify | flushTable | stop | serviceLeave => exact haccept _ _
  case status =>
    unfold State.answerStatus
    split
    · exact hrange
    · exact haccept _ _
  case restart =>
    unfold State.answerRestart
    split
    · exact hstate
    · exact haccept _ _
  case loadLadder =>
    unfold State.answerLoadLadder
    split
    · exact hrange
    split
    · exact hcombination
    split
    · exact hstate
    · exact haccept _ _
  case loadParameters =>
    unfold State.answerLoadParameters
    split
    · exact hrange
    split
    · exact hcombination
    split
    · exact hstate
    · exact haccept _ _
  case loadBaseline =>
    unfold State.answerLoadBaseline
    split
    · exact hrange
    split
    · exact hcombination
    · exact haccept _ _
  case startSpin =>
    unfold State.answerStartSpin
    split
    · exact hrange
    split
    · exact hcombination
    split
    · exact hstate
    split
    · exact s.noProfile_refusesCleanly
    · cases h : s.cham.pendingFault with
      | none => exact haccept _ _
      | some f => exact s.refuseSupply_refusesCleanly h
  case setTarget =>
    unfold State.answerSetTarget
    split
    · exact hrange
    split
    · exact hcombination
    split
    · exact hstate
    · exact haccept _ _
  case queryEstimate =>
    unfold State.answerQueryEstimate
    split
    · exact haccept _ _
    · exact hready
  case setTrace =>
    unfold State.answerSetTrace
    split
    · exact hrange
    · exact haccept _ _
  case readTrace =>
    unfold State.answerReadTrace
    dsimp only
    split
    · exact hrange
    split
    · exact hstate
    · exact haccept _ _
  case serviceEnter =>
    unfold State.answerServiceEnter
    split
    · exact hstate
    · exact haccept _ _
  case examine =>
    unfold State.answerExamine
    split
    · exact hrange
    · exact haccept _ _
  case deposit =>
    unfold State.answerDeposit
    split
    · unfold State.answerDepositSlot
      split
      · exact hrange
      split
      · exact hstate
      · exact haccept _ _
    split
    · unfold State.answerDepositChamber
      split
      · exact hrange
      · exact haccept _ _
    · exact hrange
  case manualFill =>
    unfold State.answerManualFill
    split
    · exact hrange
    split
    · exact hready
    · cases h : s.cham.pendingFault with
      | none => exact haccept _ _
      | some f => exact s.refuseSupply_refusesCleanly h
  case stopFill =>
    unfold State.answerStopFill
    split
    · exact hrange
    split
    · exact haccept _ _
    · exact haccept _ _
  case forceBaseline =>
    unfold State.answerForceBaseline
    split
    · exact hrange
    · exact haccept _ _

end

/-- Settles O19. -/
theorem refusalsChangeNothing : Obligations.RefusalsChangeNothing := by
  unfold Obligations.RefusalsChangeNothing
  intro s k body
  show (s.answer k body).RefusesCleanly s
  unfold State.answer
  split
  · exact s.refuse_refusesCleanly (by decide) (by decide)
  split
  · exact s.refuse_refusesCleanly (by decide) (by decide)
  · exact s.ownAnswer_refusesCleanly body k

/-! ## The trace's requests -/

/-- R169: a request of mode class ANY passes the mode check. -/
theorem State.modeOk_any {s : State} {k : RequestKind} (h : k.modeClass = .any) : s.modeOk k = true := by
  rw [State.modeOk, h]

theorem State.modeOk_service {s : State} {k : RequestKind} (h : k.modeClass = .service) :
    s.modeOk k = s.serv.mode := by
  rw [State.modeOk, h]

theorem State.modeOk_normal {s : State} {k : RequestKind} (h : k.modeClass = .normal) (hk : k ≠ .serviceEnter) :
    s.modeOk k = !s.serv.mode := by
  rw [State.modeOk, h]
  simp [hk]

theorem traceOctets_eq (rs : List TraceRecord) : traceOctets rs = rs.flatMap TraceRecord.octets := by
  induction rs with
  | nil => rfl
  | cons r rest ih => rw [traceOctets, ih, List.flatMap_cons]

/-- Settles O22. -/
theorem traceRequests : Obligations.TraceRequests := by
  unfold Obligations.TraceRequests
  intro w tag s hempty
  refine ⟨fun fl n m hfl hn hm => exec_request rfl hempty rfl rfl (State.modeOk_any rfl) ?_,
    fun n h1 h4 hpoll => exec_request rfl hempty rfl rfl (State.modeOk_any rfl) ?_,
    fun n h1 h4 hpush => exec_request rfl hempty rfl rfl (State.modeOk_any rfl) ?_⟩
  · have hrange : traceSettingsInRange [fl, n, m] = true := by
      simp [traceSettingsInRange, b8, hfl, hn, hm]
    have hflags : flagOctet [flagBit [fl, n, m] 0 0, flagBit [fl, n, m] 0 1] = fl := by
      rw [flagBit_eq, flagBit_eq]
      exact flagOctet_pair hfl
    show State.answerSetTrace _ _ = _
    rw [State.answerSetTrace, hrange, if_neg (by decide)]
    simp only [State.accept, Answer.mk.injEq]
    refine ⟨?_, trivial, ?_⟩
    · rw [TraceQueue.takeSettings, flagBit_eq, flagBit_eq]
      rfl
    · show [flagOctet [flagBit [fl, n, m] 0 0, flagBit [fl, n, m] 0 1], u8 n.toNat, u8 m.toNat, _, _] = _
      rw [hflags, u8_octet, u8_octet]
      rfl
  · have hone : ¬ (b8 [n] 0 = 0 ∨ 4 < b8 [n] 0) := by
      show ¬ (n.toNat = 0 ∨ 4 < n.toNat)
      omega
    show State.answerReadTrace _ _ = _
    rw [State.answerReadTrace]
    dsimp only
    rw [if_neg hone, State.serving_trace, State.begin_trace, if_neg (by simp [hpoll]), traceOctets_eq,
      List.length_take, List.length_drop]
    simp only [State.accept, Answer.mk.injEq]
    refine ⟨rfl, trivial, ?_⟩
    rw [TraceQueue.marksOctet, TraceQueue.nearEmpty, TraceQueue.nearFull, TraceQueue.half, List.length_drop]
    rfl
  · have hone : ¬ (b8 [n] 0 = 0 ∨ 4 < b8 [n] 0) := by
      show ¬ (n.toNat = 0 ∨ 4 < n.toNat)
      omega
    show State.answerReadTrace _ _ = _
    rw [State.answerReadTrace]
    dsimp only
    rw [if_neg hone, State.serving_trace, State.begin_trace, if_pos hpush]
    rfl

/-! ## The table's requests -/

/-- An entry of a table at one of its numbers. -/
theorem tget_fin {α : Type} {n : Nat} (v : Vector α n) (i : Fin n) (d : α) : tget v i.val d = v[i] := by
  simp [tget]

theorem tset_fin {α : Type} {n : Nat} (v : Vector α n) (i : Fin n) (x : α) : tset v i.val x = v.set i x := by
  ext j hj
  by_cases h : i.val = j <;> simp [tset, h]

theorem Table.mark_a (t : Table) (i : Fin 12) (b : Bool) :
    t.mark .a i.val b = { t with marksA := t.marksA.set i b } := by
  rw [Table.mark, tset_fin]
  rfl

theorem Table.mark_b (t : Table) (i : Fin 12) (b : Bool) :
    t.mark .b i.val b = { t with marksB := t.marksB.set i b } := by
  rw [Table.mark, tset_fin]
  rfl

theorem Table.flushNow_clearing {t : Table} {pos : Nat} {timer : Timer}
    (h : t.flush = .clearing pos timer false) (now : Stamp) :
    t.flushNow now = { t with flush := .clearing pos timer true } := by
  rw [Table.flushNow, h]

/-- R78, R80: one clear expiry, by the position and what waits. -/
theorem Table.clearStep_eq {t : Table} {pos : Nat} {timer : Timer} {p : Bool} (h : t.flush = .clearing pos timer p)
    (now : Stamp) : t.clearStep now =
      if pos < 11 then { t.mark t.active.other pos false with flush := .clearing (pos + 1) timer.again p }
      else if p then (t.mark t.active.other pos false).switch now
      else { t.mark t.active.other pos false with flush := .quiet } := by
  rw [Table.clearStep, h]

theorem exec_clearExpiry (w : Wait) (s : State) : exec (.clearExpiry w) s =
    .next ((s.begin w).whenDue s.table.flush.timer State.clearStep).arbitrate := exec_eq _ _

/-- Settles O26. -/
theorem flushAndClear : Obligations.FlushAndClear := by
  unfold Obligations.FlushAndClear
  refine ⟨fun w tag s hempty => ⟨fun h => ?_, fun pos t h => ?_, fun pos t h => ?_⟩,
    fun w s => ⟨fun h => ?_, fun pos t p h hdue => ?_⟩⟩
  · refine exec_request rfl hempty rfl rfl (State.modeOk_any rfl) ?_
    show State.answerFlushTable _ = _
    rw [State.answerFlushTable, State.serving_table, State.begin_table, Table.flushNow_quiet _ _ h, h]
    rfl
  · refine exec_request rfl hempty rfl rfl (State.modeOk_any rfl) ?_
    show State.answerFlushTable _ = _
    rw [State.answerFlushTable, State.serving_table, State.begin_table, Table.flushNow_clearing h, h]
    rfl
  · refine exec_request rfl hempty rfl rfl (State.modeOk_any rfl) ?_
    show State.answerFlushTable _ = _
    rw [State.answerFlushTable, State.serving_table, State.begin_table, Table.flushNow_pending _ _ (by rw [h]; rfl), h]
    rfl
  · rw [exec_clearExpiry, State.whenDue_early _ h]
  · have hexec : exec (.clearExpiry w) s =
        .next ((s.begin w).setTable (s.table.clearStep (s.begin w).time)).arbitrate := by
      rw [exec_clearExpiry, State.whenDue_due _ (by rw [h]; exact hdue)]
      rfl
    rw [hexec, Table.clearStep_eq h]
    cases hset : s.table.active with
    | a =>
      rw [TableSet.other, Table.mark_b]
      refine ⟨fun hpos => ?_, fun hpos hp => ?_, fun hpos hp => ?_⟩
      · rw [if_pos hpos]
        rfl
      · rw [if_neg (by omega), hp, if_neg (by decide)]
      · rw [if_neg (by omega), hp, if_pos rfl, Table.switch, hset]
        rfl
    | b =>
      rw [TableSet.other, Table.mark_a]
      refine ⟨fun hpos => ?_, fun hpos hp => ?_, fun hpos hp => ?_⟩
      · rw [if_pos hpos]
        rfl
      · rw [if_neg (by omega), hp, if_neg (by decide)]
      · rw [if_neg (by omega), hp, if_pos rfl, Table.switch, hset]
        rfl

end Sys2Proof.Machine
end

section
/-! Restart (O27), Service Enter, Force Baseline and Examine (O23), and the end of service mode (O24). -/

namespace Sys2Proof.Machine

/-! ## Restart -/

/-- R25: at Restart neither a read nor a conversion in progress is stored any more. -/
theorem Sampler.restart_eq (m : Sampler) : m.restart =
    { read := m.read.map (fun r => { r with dest := .nowhere })
      conv := m.conv.map (fun c => { c with dest := .nowhere })
      invalidRun := 0, idleStrike := false } := by
  have hread : m.restart.read = m.read.map (fun r => { r with dest := .nowhere }) := by
    show ((m.read.map _).map _) = _
    rw [Option.map_map]
    congr 1
    funext ⟨timer, dest⟩
    cases dest <;> rfl
  have hconv : m.restart.conv = m.conv.map (fun c => { c with dest := .nowhere }) := by
    show ((m.conv.map _).map _) = _
    rw [Option.map_map]
    congr 1
    funext ⟨timer, dest⟩
    cases dest <;> rfl
  rw [← hread, ← hconv]
  rfl

/-- Settles O27. -/
theorem restartKeepsAndClears : Obligations.RestartKeepsAndClears := by
  unfold Obligations.RestartKeepsAndClears
  refine ⟨fun w tag s hempty hbusy => exec_request rfl hempty rfl rfl (State.modeOk_any rfl) ?_,
    fun w tag s hempty hidle => exec_request rfl hempty rfl rfl (State.modeOk_any rfl) ?_⟩
  · show State.answerRestart _ = _
    rw [State.answerRestart, if_pos (by exact hbusy)]
    rfl
  · show State.answerRestart _ = _
    rw [State.answerRestart, if_neg (by simp [hidle]), State.restartAll, State.serving_samp, State.begin_samp,
      Sampler.restart_eq]
    cases hflight : s.cham.flight with
    | none =>
      rw [State.serving_cham, State.begin_cham, ChamberCtl.restart, ChamberCtl.stopMarks, hflight]
      rw [ChamberCtl.orderCount, ChamberCtl.restartEntries, hflight]
      rfl
    | some f =>
      rw [State.serving_cham, State.begin_cham, ChamberCtl.restart, ChamberCtl.stopMarks, hflight]
      rw [ChamberCtl.orderCount, ChamberCtl.restartEntries, hflight]
      rfl

/-! ## Leaving service mode -/

theorem State.serving_leaveService (s : State) (f : Frame) :
    (s.serving f).leaveService = s.leaveService.serving f := by
  rw [State.leaveService, State.leaveService, State.serving_setServ, State.serving_endAll, State.serving_serv]

theorem exec_svcFalling (w : Wait) (s : State) :
    exec (.svcFalling w) s = .next (s.begin w).svcFalls.arbitrate := exec_eq _ _

theorem State.svcFalls_service {s : State} (h : s.serv.mode = true) :
    s.svcFalls = (s.setPins { s.pins with svc := false }).leaveService := if_pos h

theorem State.svcFalls_normal {s : State} (h : s.serv.mode = false) :
    s.svcFalls = s.setPins { s.pins with svc := false } := if_neg (by simp [h])

/-- Settles O24. -/
theorem leavingServiceMode : Obligations.LeavingServiceMode := by
  unfold Obligations.LeavingServiceMode
  refine ⟨fun w tag s => ⟨fun hempty hmode => ?_, fun hmode => ?_, fun hmode => ?_⟩,
    fun s r => ⟨fun h => s.endAll_none h r, fun f h => s.endAll_eq h r⟩,
    fun s o g r => ⟨fun h => s.handEnd_service h g r, fun h hr => ?_, fun h hr => ?_⟩, fun s r => ⟨rfl, fun o rest => rfl⟩⟩
  · refine exec_request rfl hempty rfl rfl ((State.modeOk_service rfl).trans hmode) ?_
    show State.answerServiceLeave _ = _
    rw [State.answerServiceLeave, State.serving_leaveService]
    rfl
  · rw [exec_svcFalling, State.svcFalls_service (s := s.begin w) hmode]
    rfl
  · rw [exec_svcFalling, State.svcFalls_normal (s := s.begin w) hmode]
  · rw [s.handEnd_planner h]
    obtain rfl | rfl | rfl := hr <;> rfl
  · rw [s.handEnd_planner h]
    obtain rfl | rfl := hr <;> rfl

/-! ## Service Enter and Force Baseline -/

theorem exec_serviceEnter {w : Wait} {tag : Octet} {s : State} (hempty : s.link.inService = none)
    (hmode : s.serv.mode = false) (hsvc : (s.begin w).pins.svc = true) {t : State} {r : ResultCode} {fields : List Octet}
    (hanswer : ((s.begin w).serving ⟨0x30, tag, []⟩).answerServiceEnter = ⟨t.serving ⟨0x30, tag, []⟩, r, fields⟩) :
    exec (.serviceEnter w tag []) s = .next (t.replied ⟨0x30, tag, []⟩ ⟨0x70, tag, r, fields⟩).arbitrate := by
  refine exec_request (k := .serviceEnter) rfl hempty rfl rfl ?_ hanswer
  show (!s.serv.mode && (false || (s.begin w).pins.svc)) = true
  rw [hmode, hsvc]
  rfl

end Sys2Proof.Machine
end

section
/-! The octets of Examine's items and of the Status pages (O21, O23). -/

namespace Sys2Proof.Machine

/-! ## What codes stand for -/

theorem StepKind.code_eq (k : StepKind) : k.code = if k = .dwell then 0 else 1 := by cases k <;> rfl

theorem Origin.code_eq (o : Origin) : o.code = if o = .planner then 0 else 1 := by cases o <;> rfl

theorem State.belowHold_eq (s : State) :
    s.belowHold = s.spin.params.all (fun v => s.rot.speed < v.holdSpeed) := by
  unfold State.belowHold
  cases s.spin.params <;> rfl

theorem ChamberCtl.fillingChamber_eq (t : ChamberCtl) (c : Fin 4) :
    t.fillingChamber c = t.flight.any (fun f => f.order.chamber = c) := by
  unfold ChamberCtl.fillingChamber
  cases t.flight <;> rfl

/-- R141: the code of a chamber's state. -/
theorem State.chamberState_code (s : State) (c : Fin 4) : (s.chamberState c).code =
    if s.cham.flight.any (fun f => f.order.chamber = c) then 3
    else if s.cham.chambers[c].content = 0 then 0
    else if s.spin.params.all (fun v => s.rot.speed < v.holdSpeed) ∨ s.rot.stopped = true then 2
    else 1 := by
  unfold State.chamberState
  simp only [apply_ite ChamberState.code, s.cham.fillingChamber_eq, s.belowHold_eq, Bool.or_eq_true]
  rfl

/-- R161: a chamber's content, state and last end. -/
theorem State.chamberOctets_eq (s : State) (c : Fin 4) : s.chamberOctets c =
    u16 s.cham.chambers[c].content
    ++ [if s.cham.flight.any (fun f => f.order.chamber = c) then 3
        else if s.cham.chambers[c].content = 0 then 0
        else if s.spin.params.all (fun v => s.rot.speed < v.holdSpeed) ∨ s.rot.stopped = true then 2
        else 1,
      endOctet s.cham.chambers[c].lastEnd] := by
  rw [State.chamberOctets, s.chamberState_code]
  rfl

theorem State.chamberOrder_inFlight {s : State} {f : Flight} {c : Fin 4} (h : s.cham.flight = some f)
    (hc : f.order.chamber = c) : s.chamberOrder c =
      [2, f.order.origin.code] ++ u16 f.order.amount ++ u16 f.pulses ++ u16 f.delivered := by
  unfold State.chamberOrder
  rw [h]
  exact if_pos hc

theorem State.chamberOrder_waiting {s : State} {c : Fin 4} (h : ∀ f, s.cham.flight = some f → f.order.chamber ≠ c) :
    s.chamberOrder c = State.chamberOrder.queuedOrder (s.cham.queue.find? (fun o => o.chamber = c)) := by
  unfold State.chamberOrder
  cases hf : s.cham.flight with
  | none => rfl
  | some f => exact if_neg (h f hf)

/-! ## The items of Examine (R190) -/

theorem ladderItem_eq : ladderItem =
    fun a => u16 a.speed ++ [if a.kind = .dwell then 0 else 1] ++ u16 a.limit := by
  funext a
  rw [ladderItem, StepKind.code_eq]

theorem range_coe_finRange (n : Nat) : List.range n = (List.finRange n).map Fin.val :=
  List.ext_getElem (by rw [List.length_range, List.length_map, List.length_finRange]) fun i _ _ => by
    rw [List.getElem_range, List.getElem_map, List.getElem_finRange]
    rfl

theorem range_steps_classes : List.range 48 =
    (List.finRange 12).flatMap (fun x => (List.finRange 4).map (fun c => x.val * 4 + c.val)) := by
  decide

theorem State.baselineItem_eq (s : State) (x : Fin 12) (c : Fin 4) : s.baselineItem (x.val * 4 + c.val) =
    [u8 x.val, u8 c.val] ++ pair16 s.table.baseline[x][c] ++ [boolOctet s.table.loaded[x]] := by
  have hstep : (x.val * 4 + c.val) / 4 = x.val := by omega
  have hclass : (x.val * 4 + c.val) % 4 = c.val := by omega
  have hfin : fin4 c.val = c := Fin.ofNat_val_eq_self c
  rw [State.baselineItem, hstep, hclass, hfin, Table.entry, tget_fin, tget_fin]

theorem State.slotItem_eq (s : State) (x : Fin 12) : s.slotItem x.val =
    [u8 x.val, u8 s.table.slots[x].tag.val] ++ pair16 s.table.slots[x].k
    ++ [flagOctet [s.table.marksA[x], s.table.marksB[x], s.table.active = .b,
          s.table.slots[x].check = Config.checkValue s.table.slots[x].tag s.table.slots[x].k]] := by
  rw [State.slotItem, Table.slot, tget_fin, tget_fin, tget_fin]
  rfl

theorem State.examineItems_baseline (s : State) : s.examineItems 1 =
    (List.finRange 12).flatMap (fun x => (List.finRange 4).map (fun c =>
      [u8 x.val, u8 c.val] ++ pair16 s.table.baseline[x][c] ++ [boolOctet s.table.loaded[x]])) := by
  show (List.range 48).map s.baselineItem = _
  rw [range_steps_classes, List.map_flatMap]
  simp only [List.map_map, Function.comp_def, s.baselineItem_eq]

theorem State.examineItems_slots (s : State) : s.examineItems 2 =
    (List.finRange 12).map (fun x => [u8 x.val, u8 s.table.slots[x].tag.val] ++ pair16 s.table.slots[x].k
      ++ [flagOctet [s.table.marksA[x], s.table.marksB[x], s.table.active = .b,
            s.table.slots[x].check = Config.checkValue s.table.slots[x].tag s.table.slots[x].k]]) := by
  show (List.range 12).map s.slotItem = _
  rw [range_coe_finRange, List.map_map]
  exact congrArg (List.map · _) (funext s.slotItem_eq)

theorem State.examineItems_chambers (s : State) :
    s.examineItems 3 = (List.finRange 4).map s.chamberItem := rfl

/-- R189: Examine within its range. -/
theorem State.answerExamine_inRange {s : State} {t i n : Octet} (h1 : 1 ≤ n.toNat) (h8 : n.toNat ≤ 8)
    (ht : t.toNat ≤ 4) (hi : i.toNat < (s.examineItems t.toNat).length) : s.answerExamine [t, i, n] =
      s.accept ([t, i, u8 (min n.toNat ((s.examineItems t.toNat).length - i.toNat))]
        ++ (((s.examineItems t.toNat).drop i.toNat).take n.toNat).flatten) := by
  have hrange : s.examineInRange [t, i, n] = true := by
    simp [State.examineInRange, b8, within, h1, h8, ht, hi]
  have hexamined : s.examined [t, i, n] = ((s.examineItems t.toNat).drop i.toNat).take n.toNat := rfl
  rw [State.answerExamine, hrange, if_neg (by decide), hexamined, List.length_take, List.length_drop]
  show s.accept ([u8 t.toNat, u8 i.toNat, _] ++ _) = _
  rw [u8_octet, u8_octet]

/-- Settles O23. -/
theorem serviceRequests : Obligations.ServiceRequests := by
  unfold Obligations.ServiceRequests
  intro w tag s hempty
  refine ⟨fun hidle hmode hsvc => exec_serviceEnter hempty hmode hsvc ?_,
    fun hbusy hmode hsvc => exec_serviceEnter hempty hmode hsvc ?_,
    fun fl hmode hfl => exec_request rfl hempty rfl rfl ((State.modeOk_service rfl).trans hmode) ?_,
    fun t i n hmode h1 h8 ht => ?_⟩
  · rw [State.answerServiceEnter, if_neg (by simp [hidle]), State.serving_pins, hsvc]
    rfl
  · rw [State.answerServiceEnter, if_pos (by exact hbusy)]
    rfl
  · have hflags : flagOctet [flagBit [fl] 0 0, flagBit [fl] 0 1] = fl := by
      rw [flagBit_eq, flagBit_eq]
      exact flagOctet_pair hfl
    show State.answerForceBaseline _ _ = _
    rw [State.answerForceBaseline, if_neg (by exact Nat.not_lt.2 hfl)]
    simp only [State.accept, Service.forceOctet, hflags, Answer.mk.injEq, and_true]
    rw [flagBit_eq, flagBit_eq, State.serving_serv, State.begin_serv, hmode]
    rfl
  · intro chamber items hi
    have hchamber (c : Fin 4) : ((s.begin w).serving ⟨0x32, tag, [t, i, n]⟩).chamberItem c = chamber c := by
      rw [State.chamberItem, State.chamberOctets_eq]
      cases hf : s.cham.flight.filter (fun f => f.order.chamber = c) with
      | some f =>
        obtain ⟨hflight, hc⟩ := Option.filter_eq_some_iff.1 hf
        rw [State.chamberOrder_inFlight (by exact hflight) (by simpa using hc), Origin.code_eq]
        simp only [chamber, hf]
        rfl
      | none =>
        have hwaiting : ∀ f, s.cham.flight = some f → f.order.chamber ≠ c := fun f hflight hc => by
          rw [hflight] at hf
          simp [Option.filter, hc] at hf
        rw [State.chamberOrder_waiting (by exact hwaiting), State.serving_cham, State.begin_cham]
        simp only [chamber, hf]
        cases s.cham.queue.find? (fun o => o.chamber = c) with
        | none => rfl
        | some o =>
          rw [State.chamberOrder.queuedOrder, Origin.code_eq]
          rfl
    have hitems : ((s.begin w).serving ⟨0x32, tag, [t, i, n]⟩).examineItems t.toNat = items := by
      obtain h | h | h | h | h : t.toNat = 0 ∨ t.toNat = 1 ∨ t.toNat = 2 ∨ t.toNat = 3 ∨ t.toNat = 4 := by omega
      · simp only [items, h]
        rw [State.examineItems, ladderItem_eq]
        rfl
      · simp only [items, h]
        exact State.examineItems_baseline _
      · simp only [items, h]
        exact State.examineItems_slots _
      · simp only [items, h]
        rw [State.examineItems_chambers, funext hchamber]
      · simp only [items, h]
        rw [State.examineItems]
        cases hp : s.spin.params <;> simp [hp]
    refine exec_request rfl hempty rfl rfl ((State.modeOk_service rfl).trans hmode) ?_
    show State.answerExamine ((s.begin w).serving ⟨0x32, tag, [t, i, n]⟩) [t, i, n] = _
    rw [State.answerExamine_inRange h1 h8 ht (hitems ▸ hi), hitems]
    rfl

end Sys2Proof.Machine
end

section
/-! Identify, Query Estimate, Status and the kinds that name no request (O21). -/

namespace Sys2Proof.Machine

theorem requestOf_unknown {kind : Octet} (h : requestKinds.contains kind = false) : requestOf kind = none := by
  revert kind
  decide

/-- R170: a frame of a kind that names no request. -/
theorem exec_unknownKind {w : Wait} {kind tag : Octet} {body : List Octet} {s : State}
    (hempty : s.link.inService = none) (hkind : requestKinds.contains kind = false) :
    exec (.unknownKind w kind tag body) s =
      .next ((s.begin w).replied ⟨kind, tag, body⟩ ⟨0x7F, tag, .malformed, [kind]⟩).arbitrate := by
  obtain ⟨u, r, hanswer, -, hexec⟩ :=
    (offeredFrameIsHandledHeldOrDiscarded (.unknownKind w kind tag body) ⟨kind, tag, body⟩ s rfl).1 hempty
  rw [State.answerFrame, requestOf_unknown hkind, Prod.mk.injEq] at hanswer
  obtain ⟨rfl, rfl⟩ := hanswer
  exact hexec

/-! ## Fields of the pages -/

theorem predictionOctets_eq (qs : List Prediction) :
    predictionOctets qs = qs.flatMap (fun q => u8 q.step :: u16 q.p) := by
  induction qs with
  | nil => rfl
  | cons q rest ih => rw [predictionOctets, ih, List.flatMap_cons]

theorem queueOctets_eq (os : List Order) : queueOctets os =
    os.flatMap (fun o => [u8 o.chamber.val, if o.origin = .planner then 0 else 1] ++ u16 o.amount) := by
  induction os with
  | nil => rfl
  | cons o rest ih => rw [queueOctets, ih, List.flatMap_cons, Origin.code_eq]

/-- The number a run of bits is, bit 0 first. -/
theorem flagBits_eq_sum (l : List Bool) : flagBits l =
    ((List.range l.length).map (fun i => if l.getD i false then 2 ^ i else 0)).sum := by
  induction l with
  | nil => rfl
  | cons b rest ih =>
    have hdouble (f : Nat → Bool) (is : List Nat) : (is.map (fun i => if f i then 2 ^ (i + 1) else 0)).sum =
        2 * (is.map (fun i => if f i then 2 ^ i else 0)).sum := by
      induction is with
      | nil => rfl
      | cons i is ih =>
        rw [List.map_cons, List.map_cons, List.sum_cons, List.sum_cons, ih, Nat.mul_add]
        cases f i <;> simp [Nat.pow_succ, Nat.mul_comm]
    rw [flagBits, ih, List.length_cons, List.range_succ_eq_map, List.map_cons, List.sum_cons, List.map_map,
      ← hdouble]
    rfl

theorem marks16_eq (v : Vector Bool 12) : marks16 v =
    u16 ((List.range 12).map (fun i => if tget v i false then 2 ^ i else 0)).sum := by
  rw [marks16, flagBits_eq_sum, Vector.length_toList]
  congr 3
  funext i
  rw [show v.toList.getD i false = tget v i false by simp [tget]]

theorem HistoryEntry.octet_eq : HistoryEntry.octet = fun e => u8 (e.step * 16 +
    match e.outcome with
    | .hit => 0
    | .miss => 1
    | .error => 2) := by
  funext e
  rw [HistoryEntry.octet]
  cases e.outcome <;> rfl

theorem State.profileComplete_iff (s : State) : s.profileComplete = true ↔
    s.spin.ladder ≠ [] ∧ s.spin.params.isSome = true
      ∧ ∀ i, i < s.spin.ladder.length → tget s.table.loaded i false = true := by
  simp [State.profileComplete, State.baselineComplete, Spin.paramsLoaded, Spin.stepCount, and_assoc]

theorem TableSet.code_eq (t : TableSet) : t.code = if t = .a then 0 else 1 := by cases t <;> rfl

theorem boolOctet_decide_isEmpty (l : List LadderStep) : (!l.isEmpty) = decide (l ≠ []) := by
  cases l <;> rfl

/-! ## Status -/

/-- R176: a page of a Status reply after its common part. -/
def State.statusPage (s : State) (n : Nat) : List Octet :=
  if n = 0 then s.statusPage0 else if n = 1 then s.statusPage1 else if n = 2 then s.statusPage2 else s.statusPage3

theorem State.statusFields_eq (s : State) (n : Nat) : s.statusFields n = s.statusHead n ++ s.statusPage n := rfl

theorem State.statusPage2_eq (s : State) : s.statusPage2 =
    s.chamberOctets 0 ++ s.chamberOctets 1 ++ s.chamberOctets 2 ++ s.chamberOctets 3
    ++ [flagOctet [s.cham.flight.isSome, s.cham.pendingFault.isSome], boolOctet s.cham.balancer, u8 s.cham.leak]
    ++ flightOctets s.cham.flight ++ [u8 s.cham.queue.length]
    ++ s.cham.queue.flatMap (fun o => [u8 o.chamber.val, if o.origin = .planner then 0 else 1] ++ u16 o.amount)
    ++ pendingFaultOctets s.cham.pendingFault := by
  rw [State.statusPage2, queueOctets_eq]

/-- R176: an accepted Status, with the fields of its page. -/
theorem exec_status {w : Wait} {tag p : Octet} {s : State} (hempty : s.link.inService = none) (hp : p.toNat ≤ 3)
    {page : List Octet}
    (hpage : ((s.begin w).serving ⟨0x02, tag, [p]⟩).statusPage p.toNat = page) :
    exec (.status w tag [p]) s =
      .next (((s.begin w).setLink { s.link with eventsDropped := false, dropped := 0 }).okReply ⟨0x02, tag, [p]⟩
        ([u8 s.spin.state.code, flagOctet [s.serv.mode, s.link.eventsDropped], u8 s.link.dropped,
            u8 s.link.reports.length, p] ++ page)).arbitrate := by
  refine exec_request rfl hempty rfl rfl (State.modeOk_any rfl) ?_
  show State.answerStatus ((s.begin w).serving ⟨0x02, tag, [p]⟩) [p] = _
  have hin : ¬ 3 < b8 [p] 0 := Nat.not_lt.2 hp
  rw [State.answerStatus, if_neg hin]
  show State.accept _ (State.statusFields _ p.toNat) = _
  rw [State.statusFields_eq, hpage, State.statusHead, u8_octet]
  rfl

/-- Settles O21. -/
theorem readingRequests : Obligations.ReadingRequests := by
  unfold Obligations.ReadingRequests
  refine ⟨fun w tag s hempty => ⟨?_, fun e he => ?_, fun he => ?_, fun kind body h => exec_unknownKind hempty h⟩, ?_⟩
  · exact exec_request rfl hempty rfl rfl (State.modeOk_any rfl) rfl
  · refine exec_request rfl hempty rfl rfl (State.modeOk_any rfl) ?_
    show State.answerQueryEstimate _ = _
    rw [State.answerQueryEstimate, State.serving_est, State.begin_est, he]
    dsimp only
    rw [Estimate.octets, predictionOctets_eq]
    rfl
  · refine exec_request rfl hempty rfl rfl (State.modeOk_any rfl) ?_
    show State.answerQueryEstimate _ = _
    rw [State.answerQueryEstimate, State.serving_est, State.begin_est, he]
    rfl
  intro w tag p s hempty b answers complete goal seconds inertia fail cls chamber q held
  refine ⟨fun hp => exec_status hempty (by omega) ?_, fun hp => exec_status hempty (by omega) ?_,
    fun hp => exec_status hempty (by omega) ?_, fun hp => exec_status hempty (by omega) ?_, fun hp => ?_⟩
  · have hcomplete : (s.begin w).profileComplete = decide complete := by
      rw [Bool.eq_iff_iff, State.profileComplete_iff, decide_eq_true_iff]
      rfl
    have hgoal : s.spin.goal = goal := rfl
    have hinertia : s.weigh.result.inertia = inertia := by
      simp only [inertia]
      cases s.weigh.result <;> rfl
    have hfail : s.weigh.result.fail = fail := by
      simp only [fail]
      cases s.weigh.result <;> rfl
    have hcls : s.weigh.clsOctet = cls := by
      simp only [cls, Weigh.clsOctet, Weigh.cls]
      cases s.weigh.result <;> rfl
    rw [hp]
    show (s.begin w).statusPage0 = _
    rw [State.statusPage0, hcomplete, boolOctet_decide_isEmpty]
    simp only [State.begin_weigh, State.begin_spin, hgoal, hinertia, hfail, hcls]
    rfl
  · rw [hp]
    show (s.begin w).statusPage1 = _
    rw [State.statusPage1, marks16_eq, HistoryEntry.octet_eq, State.begin_table, TableSet.code_eq]
    cases s.table.flush <;> rfl
  · have hchamber (c : Fin 4) : (s.begin w).chamberOctets c = chamber c := (s.begin w).chamberOctets_eq c
    rw [hp]
    show (s.begin w).statusPage2 = _
    simp only [State.statusPage2_eq, hchamber, State.begin_cham]
    cases s.cham.flight with
    | none =>
      cases s.cham.pendingFault with
      | none => rfl
      | some v => cases v <;> rfl
    | some f =>
      simp only [flightOctets, Origin.code_eq]
      cases s.cham.pendingFault with
      | none => rfl
      | some v => cases v <;> rfl
  · rw [hp]
    rfl
  · refine exec_request rfl hempty rfl rfl (State.modeOk_any rfl) ?_
    show State.answerStatus _ _ = _
    rw [State.answerStatus, if_pos (by exact hp)]
    rfl

end Sys2Proof.Machine
end

section
/-! Load Ladder, Load Parameters and Load Baseline (O25): the bodies read back, their checks, and what they replace. -/

namespace Sys2Proof.Machine

/-! ## The rules of a ladder (R90) -/

/-- Any four steps in a row hold a DWELL step. -/
def WindowsDwell (l : List LadderStep) : Prop :=
  ∀ i, i + 3 < l.length → ∃ a ∈ (l.drop i).take 4, a.kind = .dwell

/-- The first `n` steps hold a DWELL step, if there are so many. -/
def StartsDwell (n : Nat) (l : List LadderStep) : Prop := n ≤ l.length → ∃ a ∈ l.take n, a.kind = .dwell

theorem WindowsDwell.of_cons {a : LadderStep} {l : List LadderStep} (h : WindowsDwell (a :: l)) : WindowsDwell l :=
  fun i hi => h (i + 1) (by rw [List.length_cons]; omega)

theorem windowsDwell_cons {a : LadderStep} {l : List LadderStep} (hfirst : StartsDwell 4 (a :: l))
    (h : WindowsDwell l) : WindowsDwell (a :: l) := by
  intro i hi
  cases i with
  | zero => exact hfirst (by omega)
  | succ i => exact h i (by rw [List.length_cons] at hi; omega)

theorem WindowsDwell.starts {l : List LadderStep} (h : WindowsDwell l) : StartsDwell 4 l :=
  fun hlen => h 0 (by omega)

/-- More steps hold what fewer hold. -/
theorem StartsDwell.mono {n m : Nat} {l : List LadderStep} (h : StartsDwell n l) (hle : n ≤ m) : StartsDwell m l := by
  intro hlen
  obtain ⟨a, ha, hdwell⟩ := h (Nat.le_trans hle hlen)
  exact ⟨a, (List.take_subset_take_left l hle) ha, hdwell⟩

/-- R90: the run count, seen from the steps just passed. -/
theorem crossingRunsOk_iff {run : Nat} (hrun : run ≤ 3) (l : List LadderStep) :
    crossingRunsOk run l = true ↔ WindowsDwell l ∧ StartsDwell (4 - run) l := by
  induction l generalizing run with
  | nil =>
    refine iff_of_true rfl ⟨fun i hi => absurd hi (by simp), fun hlen => ?_⟩
    simp only [List.length_nil] at hlen
    omega
  | cons a rest ih =>
    cases hk : a.kind with
    | dwell =>
      rw [crossingRunsOk, hk]
      have hstart (n : Nat) : StartsDwell (n + 1) (a :: rest) := fun _ => ⟨a, by simp, hk⟩
      refine (ih (Nat.zero_le 3)).trans ⟨fun ⟨h, _⟩ => ?_, fun ⟨h, _⟩ => ⟨h.of_cons, h.of_cons.starts⟩⟩
      refine ⟨windowsDwell_cons (hstart 3) h, ?_⟩
      rw [show 4 - run = 3 - run + 1 by omega]
      exact hstart _
    | crossing =>
      have hnext (n : Nat) : StartsDwell (n + 1) (a :: rest) ↔ StartsDwell n rest := by
        constructor
        · intro h hlen
          obtain ⟨b, hb, hdwell⟩ := h (by simpa using hlen)
          rw [List.take_succ_cons, List.mem_cons] at hb
          obtain rfl | hb := hb
          · rw [hk] at hdwell
            exact nomatch hdwell
          · exact ⟨b, hb, hdwell⟩
        · intro h hlen
          obtain ⟨b, hb, hdwell⟩ := h (by simpa using hlen)
          exact ⟨b, by simp [hb], hdwell⟩
      rw [crossingRunsOk, hk]
      simp only [Bool.and_eq_true, decide_eq_true_eq]
      obtain hlt | rfl := Nat.lt_or_eq_of_le hrun
      · rw [ih (by omega), show 4 - run = (4 - (run + 1)) + 1 by omega, hnext]
        refine ⟨fun ⟨_, h, hstart⟩ => ⟨windowsDwell_cons ?_ h, hstart⟩,
          fun ⟨h, hstart⟩ => ⟨by omega, h.of_cons, hstart⟩⟩
        exact (hnext 3).2 (hstart.mono (by omega))
      · refine iff_of_false (by omega) fun ⟨_, hstart⟩ => ?_
        obtain ⟨b, hb, -⟩ := (hnext 0).1 hstart (Nat.zero_le _)
        exact absurd hb (by simp)

/-- R90: the three rules of a ladder. -/
theorem ladderConsistent_iff (l : List LadderStep) : ladderConsistent l = true ↔ ladderRules l := by
  have hruns : crossingRunsOk 0 l = true ↔ WindowsDwell l :=
    (crossingRunsOk_iff (by decide) l).trans ⟨And.left, fun h => ⟨h, h.starts⟩⟩
  simp only [ladderConsistent, endsDwell, Bool.and_eq_true, speedsRise_iff, hruns, Option.any_eq_true,
    decide_eq_true_eq, ladderRules, WindowsDwell, and_assoc, Option.mem_def]

/-! ## A ladder's body -/

/-- A step as its octets give it. -/
def LadderStep.raw (a : LadderStep) : RawStep := ⟨a.speed, if a.kind = .dwell then 0 else 1, a.limit⟩

theorem LadderStep.raw_step (a : LadderStep) : a.raw.step = a := by
  obtain ⟨speed, kind, limit⟩ := a
  cases kind <;> rfl

theorem readSteps_flatMap {l : List LadderStep} (h : ∀ a ∈ l, a.speed < 65536 ∧ a.limit < 65536) :
    readSteps (l.flatMap (fun a => u16 a.speed ++ [if a.kind = .dwell then 0 else 1] ++ u16 a.limit))
      = l.map LadderStep.raw := by
  induction l with
  | nil => rfl
  | cons a rest ih =>
    obtain ⟨hspeed, hlimit⟩ := h a List.mem_cons_self
    have hkind : (if a.kind = .dwell then (0 : Octet) else 1).toNat = if a.kind = .dwell then 0 else 1 := by
      split <;> rfl
    rw [List.flatMap_cons, List.map_cons, LadderStep.raw, ← ih fun b hb => h b (List.mem_cons_of_mem a hb)]
    show readSteps (u8 (a.speed / 256) :: u8 a.speed :: _ :: u8 (a.limit / 256) :: u8 a.limit :: _) = _
    rw [readSteps, val16_u8 hspeed, val16_u8 hlimit, hkind]
    rfl

section
variable {l : List LadderStep}

theorem bodyLadder_ladderBody (h : ∀ a ∈ l, a.speed < 65536 ∧ a.limit < 65536) : bodyLadder (ladderBody l) = l := by
  rw [bodyLadder, ladderBody, List.drop_succ_cons, List.drop_zero, readSteps_flatMap h, List.map_map]
  exact (List.map_congr_left fun a _ => a.raw_step).trans (List.map_id l)

theorem ladderBody_lengthOk (h : l.length < 256) : RequestKind.loadLadder.lengthOk (ladderBody l) = true := by
  have hlen : (l.flatMap (fun a => u16 a.speed ++ [if a.kind = .dwell then (0 : Octet) else 1] ++ u16 a.limit)).length
      = 5 * l.length := by
    clear h
    induction l with
    | nil => rfl
    | cons a rest ih =>
      rw [List.flatMap_cons, List.length_append, ih, List.length_cons]
      show 5 + 5 * rest.length = 5 * (rest.length + 1)
      omega
  simp only [RequestKind.lengthOk, ladderBody, b8, List.length_cons, hlen, List.getD_cons_zero, u8_toNat_lt h]
  simp [Nat.add_comm]

theorem ladderBody_inRange (h2 : 2 ≤ l.length) (h12 : l.length ≤ 12)
    (h : ∀ a ∈ l, 50 ≤ a.speed ∧ a.speed ≤ 1200 ∧ 20 ≤ a.limit ∧ a.limit ≤ 1000) :
    ladderInRange (ladderBody l) = true := by
  have hcount : b8 (ladderBody l) 0 = l.length := u8_toNat_lt (by omega)
  have hsteps : readSteps ((ladderBody l).drop 1) = l.map LadderStep.raw :=
    readSteps_flatMap fun a ha => by
      obtain ⟨-, h1200, -, h1000⟩ := h a ha
      omega
  rw [ladderInRange, hcount, hsteps]
  simp only [Bool.and_eq_true, decide_eq_true_eq, List.all_map, List.all_eq_true]
  refine ⟨⟨h2, h12⟩, fun a ha => ?_⟩
  obtain ⟨h50, h1200, h20, h1000⟩ := h a ha
  have hkind : (if a.kind = .dwell then 0 else 1) ≤ 1 := by split <;> omega
  simp [RawStep.inRange, LadderStep.raw, h50, h1200, h20, h1000, hkind]

end

/-- The steps of a body by their octets. -/
theorem readSteps_getElem? {n : Nat} {b : List Octet} (h : b.length = 5 * n) {i : Nat} (hi : i < n) :
    (readSteps b)[i]? = some ⟨val16 (b.getD (5 * i) 0) (b.getD (5 * i + 1) 0), (b.getD (5 * i + 2) 0).toNat,
      val16 (b.getD (5 * i + 3) 0) (b.getD (5 * i + 4) 0)⟩ := by
  induction n generalizing b i with
  | zero => exact absurd hi (Nat.not_lt_zero i)
  | succ n ih =>
    obtain _ | ⟨s1, _ | ⟨s0, _ | ⟨k, _ | ⟨l1, _ | ⟨l0, rest⟩⟩⟩⟩⟩ := b
    case cons.cons.cons.cons.cons =>
      rw [readSteps]
      cases i with
      | zero => rfl
      | succ i =>
        have hrest : rest.length = 5 * n := by
          simp only [List.length_cons] at h
          omega
        rw [List.getElem?_cons_succ, ih hrest (by omega)]
        rfl
    all_goals
      simp only [List.length_cons, List.length_nil] at h
      omega

end Sys2Proof.Machine
end

section
/-! The bodies of Load Parameters and Load Baseline read back, and the three loads as commands (O25). -/

namespace Sys2Proof.Machine

/-! ## A parameter set's body -/

theorem Params.inRange_iff (p : Params) : p.inRange = true ↔
    ∀ e ∈ p.values.zip
      [(2, 16), (1, 8), (4, 400), (100, 1600), (50, 4000), (1, 5), (1, 4), (0, 3), (150, 600), (1, 10),
       (5, 50), (20, 400), (5, 50), (0, 31), (0, 2), (1, 50), (20, 60), (40, 120), (100, 2000),
       (0, 4000), (0, 4000), (0, 4000), (500, 10000), (500, 5000)],
      e.2.1 ≤ e.1 ∧ e.1 ≤ e.2.2 := by
  simp only [Params.inRange, Params.values, within, Bool.and_eq_true, decide_eq_true_eq, List.zip_cons_cons,
    List.zip_nil_right, List.forall_mem_cons, List.not_mem_nil, false_implies, implies_true, and_true, and_assoc]

theorem bodyParams_body {p : Params}
    (h : ∀ e ∈ p.values.zip [1, 1, 2, 2, 2, 1, 1, 1, 2, 1, 1, 2, 1, 1, 1, 1, 1, 1, 2, 2, 2, 2, 2, 2],
      e.1 < 256 ^ e.2) : bodyParams p.body = p := by
  simp only [Params.values, List.zip_cons_cons, List.zip_nil_right, List.forall_mem_cons, Nat.pow_one,
    show 256 ^ 2 = 65536 from rfl] at h
  obtain ⟨h1, h2, h3, h4, h5, h6, h7, h8, h9, h10, h11, h12, h13, h14, h15, h16, h17, h18, h19, h20, h21, h22, h23,
    h24, -⟩ := h
  cases p
  dsimp only at h1 h2 h3 h4 h5 h6 h7 h8 h9 h10 h11 h12 h13 h14 h15 h16 h17 h18 h19 h20 h21 h22 h23 h24
  simp only [bodyParams, Params.body, b8, b16, u16, List.cons_append, List.nil_append, List.getD_cons_zero,
    List.getD_cons_succ, val16_u8 h3, val16_u8 h4, val16_u8 h5, val16_u8 h9, val16_u8 h12, val16_u8 h19, val16_u8 h20,
    val16_u8 h21, val16_u8 h22, val16_u8 h23, val16_u8 h24, u8_toNat_lt h1, u8_toNat_lt h2, u8_toNat_lt h6,
    u8_toNat_lt h7, u8_toNat_lt h8, u8_toNat_lt h10, u8_toNat_lt h11, u8_toNat_lt h13, u8_toNat_lt h14,
    u8_toNat_lt h15, u8_toNat_lt h16, u8_toNat_lt h17, u8_toNat_lt h18]

theorem Params.body_length (p : Params) : p.body.length = 35 := by simp [Params.body]

theorem Params.consistent_iff (p : Params) : p.consistent = true ↔
    p.weighLow + 20 ≤ p.weighHigh ∧ p.threshold1 < p.threshold2 ∧ p.threshold2 < p.threshold3 := by
  simp only [Params.consistent, Bool.and_eq_true, decide_eq_true_eq, and_assoc]

/-! ## A baseline's body -/

/-- The components of a coefficient that two octets carry. -/
def PairFits (k : Pair) : Prop := -32768 ≤ k.re ∧ k.re ≤ 32767 ∧ -32768 ≤ k.im ∧ k.im ≤ 32767

theorem bPair_pair16 {k : Pair} (h : PairFits k) {pre rest : List Octet} {n : Nat} (hn : pre.length = n) :
    bPair (pre ++ pair16 k ++ rest) n = k := by
  obtain ⟨hre, hre', him, him'⟩ := h
  subst hn
  have hat (i : Nat) (hi : i < 4) : (pre ++ pair16 k ++ rest).getD (pre.length + i) 0 = (pair16 k).getD i 0 := by
    rw [List.getD_eq_getElem?_getD, List.getD_eq_getElem?_getD, List.append_assoc,
      List.getElem?_append_right (Nat.le_add_right _ _), Nat.add_sub_cancel_left,
      List.getElem?_append_left (by simpa using hi)]
  obtain ⟨re, im⟩ := k
  have hat0 := hat 0 (by omega)
  rw [Nat.add_zero] at hat0
  rw [bPair, s16, s16, hat0, hat 1 (by omega), hat 2 (by omega), Nat.add_assoc, hat 3 (by omega)]
  simp only [Pair.mk.injEq]
  exact ⟨sval16_i16 hre hre', sval16_i16 him him'⟩

section
variable {ks : Vector Pair 4} (h : ∀ k ∈ ks, PairFits k) (i : Nat)
include h

theorem bodyCoefficients_baselineBody : bodyCoefficients (baselineBody i ks) = ks := by
  have h0 : bPair (baselineBody i ks) 1 = ks[0] :=
    bPair_pair16 (h _ (by simp)) (pre := [u8 i]) (rest := pair16 ks[1] ++ (pair16 ks[2] ++ pair16 ks[3])) rfl
  have h1 : bPair (baselineBody i ks) 5 = ks[1] :=
    bPair_pair16 (h _ (by simp)) (pre := u8 i :: pair16 ks[0]) (rest := pair16 ks[2] ++ pair16 ks[3]) rfl
  have h2 : bPair (baselineBody i ks) 9 = ks[2] :=
    bPair_pair16 (h _ (by simp)) (pre := u8 i :: pair16 ks[0] ++ pair16 ks[1]) (rest := pair16 ks[3]) rfl
  have h3 : bPair (baselineBody i ks) 13 = ks[3] :=
    bPair_pair16 (h _ (by simp)) (pre := u8 i :: pair16 ks[0] ++ pair16 ks[1] ++ pair16 ks[2]) (rest := []) rfl
  rw [bodyCoefficients, h0, h1, h2, h3]
  ext j hj
  obtain rfl | rfl | rfl | rfl : j = 0 ∨ j = 1 ∨ j = 2 ∨ j = 3 := by omega
  all_goals rfl

end

section
variable {ks : Vector Pair 4} (h : ∀ k ∈ ks, PairFits k) (i : Fin 12)
include h

theorem baselineBody_inRange : baselineInRange (baselineBody i.val ks) = true ↔ ∀ k ∈ ks, 16 ≤ mag k := by
  have hcoefficients := bodyCoefficients_baselineBody h i.val
  have hstep : b8 (baselineBody i.val ks) 0 ≤ 11 := by
    show (u8 i.val).toNat ≤ 11
    rw [u8_toNat]
    omega
  have hall : baselineInRange (baselineBody i.val ks) = true ↔
      ∀ k ∈ bodyCoefficients (baselineBody i.val ks), 16 ≤ mag k := by
    simp [baselineInRange, bodyCoefficients, hstep, and_assoc]
  rw [hall, hcoefficients]

end

/-! ## The loads as commands -/

section
variable {w : Wait} {tag : Octet} {s : State}

/-- R169: a request of mode class NORMAL out of service mode. -/
theorem State.modeOk_out_of_service {k : RequestKind} (h : k.modeClass = .normal) (hk : k ≠ .serviceEnter)
    (hmode : s.serv.mode = false) : (s.begin w).modeOk k = true := by
  rw [State.modeOk_normal h hk, State.begin_serv, hmode]
  rfl

/-- R91: the range check of a Load Ladder body, octet by octet. -/
theorem ladderInRange_false {body : List Octet} (hlen : body.length = 1 + 5 * (body.getD 0 0).toNat)
    (h : (body.getD 0 0).toNat < 2 ∨ 12 < (body.getD 0 0).toNat ∨ ∃ i, i < (body.getD 0 0).toNat ∧
      ∃ r, (readSteps (body.drop 1))[i]? = some r ∧ r.inRange = false) : ladderInRange body = false := by
  rw [Bool.eq_false_iff]
  intro htrue
  simp only [ladderInRange, Bool.and_eq_true, decide_eq_true_eq, List.all_eq_true] at htrue
  have hcount : b8 body 0 = (body.getD 0 0).toNat := rfl
  obtain ⟨⟨h2, h12⟩, hall⟩ := htrue
  obtain hlow | hhigh | ⟨i, hi, r, hr, hout⟩ := h
  · omega
  · omega
  · rw [hall r (List.mem_of_getElem? hr)] at hout
    exact nomatch hout

theorem exec_loadLadder {body : List Octet} (hempty : s.link.inService = none) (hmode : s.serv.mode = false)
    (hlength : RequestKind.loadLadder.lengthOk body = true) {t : State} {r : ResultCode} {fields : List Octet}
    (h : ((s.begin w).serving ⟨0x10, tag, body⟩).answerLoadLadder body = ⟨t.serving ⟨0x10, tag, body⟩, r, fields⟩) :
    exec (.loadLadder w tag body) s =
      .next (t.replied ⟨0x10, tag, body⟩ ⟨0x50, tag, r, fields⟩).arbitrate :=
  exec_request (c := .loadLadder w tag body) (k := .loadLadder) rfl hempty rfl hlength
    (State.modeOk_out_of_service (w := w) rfl (by decide) hmode) h

theorem exec_loadParameters {body : List Octet} (hempty : s.link.inService = none) (hmode : s.serv.mode = false)
    (hlength : body.length = 35) {t : State} {r : ResultCode} {fields : List Octet}
    (h : ((s.begin w).serving ⟨0x11, tag, body⟩).answerLoadParameters body =
      ⟨t.serving ⟨0x11, tag, body⟩, r, fields⟩) :
    exec (.loadParameters w tag body) s =
      .next (t.replied ⟨0x11, tag, body⟩ ⟨0x51, tag, r, fields⟩).arbitrate :=
  exec_request (c := .loadParameters w tag body) (k := .loadParameters) rfl hempty rfl (decide_eq_true hlength)
    (State.modeOk_out_of_service (w := w) rfl (by decide) hmode) h

theorem exec_loadBaseline {body : List Octet} (hempty : s.link.inService = none) (hlength : body.length = 17)
    {t : State} {r : ResultCode} {fields : List Octet}
    (h : ((s.begin w).serving ⟨0x12, tag, body⟩).answerLoadBaseline body = ⟨t.serving ⟨0x12, tag, body⟩, r, fields⟩) :
    exec (.loadBaseline w tag body) s =
      .next (t.replied ⟨0x12, tag, body⟩ ⟨0x52, tag, r, fields⟩).arbitrate :=
  exec_request (c := .loadBaseline w tag body) (k := .loadBaseline) rfl hempty rfl (decide_eq_true hlength)
    (State.modeOk_any rfl) h

end

/-- R91: a step's field out of its range, octet by octet. -/
theorem RawStep.inRange_false {r : RawStep} (h : r.speed < 50 ∨ 1200 < r.speed ∨ 1 < r.kind ∨ r.limit < 20 ∨
    1000 < r.limit) : r.inRange = false := by
  rw [Bool.eq_false_iff]
  intro htrue
  simp only [RawStep.inRange, Bool.and_eq_true, decide_eq_true_eq] at htrue
  omega

/-- Settles O25. -/
theorem loadRequests : Obligations.LoadRequests := by
  unfold Obligations.LoadRequests
  refine ⟨fun w tag body s hempty hmode => ?_, fun w tag l s hempty hmode h2 h12 hrange => ?_, Params.inRange_iff,
    fun w tag p s hempty hmode hsizes => ?_, fun w tag i ks s hempty hfits => ?_, fun w tag body s hempty hlen hstep => ?_⟩
  · intro count at' speed limit hlen hout
    have hlengthOk : RequestKind.loadLadder.lengthOk body = true := by
      cases body with
      | nil => exact absurd hlen (by rw [List.length_nil]; omega)
      | cons o rest => exact decide_eq_true hlen
    have hin : ladderInRange body = false := by
      refine ladderInRange_false hlen ?_
      obtain hlow | hhigh | ⟨i, hi, hbad⟩ := hout
      · exact .inl hlow
      · exact .inr (.inl hhigh)
      · refine .inr (.inr ⟨i, hi, _, readSteps_getElem? (n := count) (by rw [List.length_drop]; omega) hi, ?_⟩)
        have hat (k : Nat) : (body.drop 1).getD (5 * i + k) 0 = body.getD (1 + 5 * i + k) 0 := by
          rw [List.getD_eq_getElem?_getD, List.getD_eq_getElem?_getD, List.getElem?_drop, Nat.add_assoc]
        have hat0 := hat 0
        rw [Nat.add_zero] at hat0
        rw [hat0, hat 1, hat 2, hat 3, hat 4]
        exact RawStep.inRange_false hbad
    refine exec_loadLadder hempty hmode hlengthOk ?_
    rw [State.answerLoadLadder, hin, if_pos (by decide)]
    rfl
  · have hbody : bodyLadder (ladderBody l) = l := bodyLadder_ladderBody fun a ha => by
      obtain ⟨-, h1200, -, h1000⟩ := hrange a ha
      omega
    have hin : ladderInRange (ladderBody l) = true := ladderBody_inRange h2 h12 hrange
    have hlength : RequestKind.loadLadder.lengthOk (ladderBody l) = true := ladderBody_lengthOk (by omega)
    refine ⟨fun hrules hidle => exec_loadLadder hempty hmode hlength ?_,
      fun hrules => exec_loadLadder hempty hmode hlength ?_,
      fun hrules hbusy => exec_loadLadder hempty hmode hlength ?_⟩
    all_goals rw [State.answerLoadLadder, hin, hbody, if_neg (by decide)]
    · rw [(ladderConsistent_iff l).2 hrules, if_neg (by decide), if_neg (by simp [hidle])]
      rfl
    · rw [Bool.eq_false_iff.2 (mt (ladderConsistent_iff l).1 hrules), if_pos (by decide)]
      rfl
    · rw [(ladderConsistent_iff l).2 hrules, if_neg (by decide), if_pos (by exact hbusy)]
      rfl
  · have hbody := bodyParams_body hsizes
    refine ⟨fun hin hagree hidle => exec_loadParameters hempty hmode p.body_length ?_,
      fun hin => exec_loadParameters hempty hmode p.body_length ?_,
      fun hin hagree => exec_loadParameters hempty hmode p.body_length ?_,
      fun hin hagree hbusy => exec_loadParameters hempty hmode p.body_length ?_⟩
    all_goals rw [State.answerLoadParameters, hbody, hin]
    · rw [p.consistent_iff.2 hagree, if_neg (by decide), if_neg (by decide), if_neg (by simp [hidle])]
      rfl
    · rw [if_pos (by decide)]
      rfl
    · rw [Bool.eq_false_iff.2 (mt p.consistent_iff.1 hagree), if_neg (by decide), if_pos (by decide)]
      rfl
    · rw [p.consistent_iff.2 hagree, if_neg (by decide), if_neg (by decide), if_pos (by exact hbusy)]
      rfl
  · have hin := baselineBody_inRange hfits i
    have hnumber : b8 (baselineBody i.val ks) 0 = i.val := u8_toNat_lt (by omega)
    refine ⟨fun hlarge hstep => exec_loadBaseline hempty rfl ?_, fun hsmall => exec_loadBaseline hempty rfl ?_,
      fun hlarge hstep => exec_loadBaseline hempty rfl ?_⟩
    all_goals rw [State.answerLoadBaseline, hnumber, bodyCoefficients_baselineBody hfits]
    · rw [hin.2 hlarge, if_neg (by decide), if_neg (by exact Nat.not_le.2 hstep), Table.loadEntries, Table.mark_a,
        Table.mark_b, tset_fin, tset_fin]
      rfl
    · obtain ⟨k, hk, hsmall⟩ := hsmall
      rw [Bool.eq_false_iff.2 fun htrue => absurd (hin.1 htrue k hk) (Nat.not_le.2 hsmall), if_pos (by decide)]
      rfl
    · rw [hin.2 hlarge, if_neg (by decide), if_pos (by exact hstep)]
      rfl
  · refine exec_loadBaseline hempty hlen ?_
    have hout : baselineInRange body = false := by
      have hstep' : ¬ b8 body 0 ≤ 11 := Nat.not_le.2 hstep
      simp [baselineInRange, hstep']
    rw [State.answerLoadBaseline, hout, if_pos (by decide)]
    rfl

end Sys2Proof.Machine
end

section
/-! The general checks in their order (O20). -/

namespace Sys2Proof.Machine

section
variable (s : State) (b : List Octet)

/-- R169: no check after the mode check answers MALFORMED or MODE. -/
theorem State.ownAnswer_result (k : RequestKind) :
    (s.ownAnswer k b).result ≠ .malformed ∧ (s.ownAnswer k b).result ≠ .mode := by
  cases k <;> unfold State.ownAnswer <;> dsimp only
  case identify | flushTable | stop | serviceLeave => exact ⟨nofun, nofun⟩
  case status =>
    unfold State.answerStatus
    split <;> exact ⟨nofun, nofun⟩
  case restart =>
    unfold State.answerRestart
    split <;> exact ⟨nofun, nofun⟩
  case loadLadder =>
    unfold State.answerLoadLadder
    (repeat' split) <;> exact ⟨nofun, nofun⟩
  case loadParameters =>
    unfold State.answerLoadParameters
    (repeat' split) <;> exact ⟨nofun, nofun⟩
  case loadBaseline =>
    unfold State.answerLoadBaseline
    (repeat' split) <;> exact ⟨nofun, nofun⟩
  case startSpin =>
    unfold State.answerStartSpin
    (repeat' split) <;> exact ⟨nofun, nofun⟩
  case setTarget =>
    unfold State.answerSetTarget
    (repeat' split) <;> exact ⟨nofun, nofun⟩
  case queryEstimate =>
    unfold State.answerQueryEstimate
    split <;> exact ⟨nofun, nofun⟩
  case setTrace =>
    unfold State.answerSetTrace
    split <;> exact ⟨nofun, nofun⟩
  case readTrace =>
    unfold State.answerReadTrace
    dsimp only
    (repeat' split) <;> exact ⟨nofun, nofun⟩
  case serviceEnter =>
    unfold State.answerServiceEnter
    split <;> exact ⟨nofun, nofun⟩
  case examine =>
    unfold State.answerExamine
    split <;> exact ⟨nofun, nofun⟩
  case deposit =>
    unfold State.answerDeposit State.answerDepositSlot State.answerDepositChamber
    (repeat' split) <;> exact ⟨nofun, nofun⟩
  case manualFill =>
    unfold State.answerManualFill
    (repeat' split) <;> exact ⟨nofun, nofun⟩
  case stopFill =>
    unfold State.answerStopFill
    (repeat' split) <;> exact ⟨nofun, nofun⟩
  case forceBaseline =>
    unfold State.answerForceBaseline
    split <;> exact ⟨nofun, nofun⟩

variable {s b} {k : RequestKind}

theorem State.answer_malformed (h : k.lengthOk b = false) : s.answer k b = ⟨s, .malformed, []⟩ := by
  rw [State.answer, h]
  rfl

theorem State.answer_mode (hlength : k.lengthOk b = true) (h : s.modeOk k = false) : s.answer k b = ⟨s, .mode, []⟩ := by
  rw [State.answer, hlength, h]
  rfl

theorem State.answer_own (hlength : k.lengthOk b = true) (h : s.modeOk k = true) : s.answer k b = s.ownAnswer k b := by
  rw [State.answer, hlength, h]
  rfl

theorem State.answer_result_ne_malformed (hlength : k.lengthOk b = true) : (s.answer k b).result ≠ .malformed := by
  cases h : s.modeOk k with
  | false =>
    rw [State.answer_mode hlength h]
    exact nofun
  | true =>
    rw [State.answer_own hlength h]
    exact (s.ownAnswer_result b k).1

theorem State.answer_result_ne_mode (hlength : k.lengthOk b = true) (h : s.modeOk k = true) :
    (s.answer k b).result ≠ .mode := by
  rw [State.answer_own hlength h]
  exact (s.ownAnswer_result b k).2

end

/-- R169: the length check, by the number of octets 11.4 gives each kind. -/
theorem RequestKind.loadLadder_lengthOk_iff (b : List Octet) :
    RequestKind.loadLadder.lengthOk b = true ↔ ∃ n rest, b = n :: rest ∧ rest.length = 5 * n.toNat := by
  cases b with
  | nil => exact iff_of_false (by decide) (by simp)
  | cons o rest =>
    simp only [RequestKind.lengthOk, b8, List.isEmpty_cons, Bool.not_false, Bool.true_and, decide_eq_true_eq,
      List.length_cons, List.getD_cons_zero]
    refine ⟨fun h => ⟨o, rest, rfl, by omega⟩, ?_⟩
    rintro ⟨n, tail, hcons, hlen⟩
    obtain ⟨rfl, rfl⟩ := List.cons.inj hcons
    omega

theorem sval16_eq_append (hi lo : Octet) : sval16 hi lo = (hi ++ lo).toInt := by
  have happend : BitVec.ofNat 16 (val16 hi lo) = hi ++ lo := by
    apply BitVec.eq_of_toNat_eq
    have hlo := lo.isLt
    rw [BitVec.toNat_append, ← Nat.shiftLeft_add_eq_or_of_lt hlo, Nat.shiftLeft_eq, BitVec.toNat_ofNat, val16,
      Nat.mod_eq_of_lt]
    omega
  rw [sval16, happend]

theorem octet_ne_zero_iff (o : Octet) : o ≠ 0 ↔ o.toNat ≠ 0 := by
  rw [ne_eq, ← BitVec.toNat_inj]
  rfl

theorem State.examineItems_length (s : State) {t : Nat} (ht : t ≤ 4) : (s.examineItems t).length =
    if t = 0 then s.spin.ladder.length else if t = 1 then 48 else if t = 2 then 12 else if t = 3 then 4
    else if s.spin.params.isSome then 24 else 0 := by
  obtain rfl | rfl | rfl | rfl | rfl : t = 0 ∨ t = 1 ∨ t = 2 ∨ t = 3 ∨ t = 4 := by omega
  · exact List.length_map _
  · rfl
  · rfl
  · rfl
  · rw [State.examineItems]
    cases s.spin.params <;> rfl

section
variable {s : State} {b : List Octet}

theorem State.answerManualFill_range (h : 3 < b8 b 0 ∨ b16 b 1 = 0 ∨ 400 < b16 b 1) :
    s.answerManualFill b = s.refuse .range := by
  have hout : 3 < b8 b 0 ∨ (!within 1 400 (b16 b 1)) = true := by
    simp only [within, Bool.not_eq_true', Bool.and_eq_false_iff, decide_eq_false_iff_not]
    omega
  rw [State.answerManualFill, if_pos hout]

/-! A Deposit by its target (R191, R192; log 6). -/

theorem State.answerDeposit_slot (s : State) (fields : List Octet) :
    s.answerDeposit (2 :: fields) = s.answerDepositSlot (2 :: fields) := if_pos rfl

theorem State.answerDeposit_chamber (s : State) (fields : List Octet) :
    s.answerDeposit (3 :: fields) = s.answerDepositChamber (3 :: fields) := by
  have hne : ¬ b8 (3 :: fields) 0 = targetSlot := by
    show ¬ (3 : Octet).toNat = targetSlot
    decide
  rw [State.answerDeposit, if_neg hne]
  exact if_pos rfl

section
variable (hc : b8 b 0 ≤ 3) (h1 : 1 ≤ b16 b 1) (h400 : b16 b 1 ≤ 400)
include hc h1 h400

theorem manualFill_inRange : ¬ (3 < b8 b 0 ∨ (!within 1 400 (b16 b 1)) = true) := by
  simp only [within, Bool.not_eq_true', Bool.and_eq_false_iff, decide_eq_false_iff_not]
  omega

theorem State.answerManualFill_notReady (h : s.spin.params = none) : s.answerManualFill b = s.refuse .notReady := by
  rw [State.answerManualFill, if_neg (manualFill_inRange hc h1 h400), Spin.paramsLoaded, h]
  rfl

theorem State.answerManualFill_fault {p : Params} (h : s.spin.params = some p) {v : SupplyFault}
    (hv : s.cham.pendingFault = some v) : s.answerManualFill b = s.refuseSupply v := by
  rw [State.answerManualFill, if_neg (manualFill_inRange hc h1 h400), Spin.paramsLoaded, h, hv]
  rfl

theorem State.answerManualFill_taken {p : Params} (h : s.spin.params = some p) (hv : s.cham.pendingFault = none) :
    s.answerManualFill b = (s.takeOrder (manualOrder b)).accept
      ((s.orderCase (manualOrder b)).code :: u16 (s.clampOrder (manualOrder b)).amount) := by
  rw [State.answerManualFill, if_neg (manualFill_inRange hc h1 h400), Spin.paramsLoaded, h, hv]
  rfl

end

end

/-- Settles O20. -/
theorem lengthThenMode : Obligations.LengthThenMode := by
  unfold Obligations.LengthThenMode
  refine ⟨fun s k body => ?_, fun s x y z => ?_, fun s x y z hmode => ?_, fun s t i g re' re im' im v f n' n hmode => ?_⟩
  · intro right normal service
    have hright : right ↔ k.lengthOk body = true := by
      cases k
      case loadLadder => exact (RequestKind.loadLadder_lengthOk_iff body).symm
      all_goals exact (decide_eq_true_iff (p := body.length = _)).symm
    have hnormal : normal ↔ k.modeClass = .normal := by
      cases k <;> simp [normal, RequestKind.modeClass]
    have hservice : service ↔ k.modeClass = .service := by
      cases k <;> simp [service, RequestKind.modeClass]
    rw [hright, hnormal, hservice]
    refine ⟨fun h => State.answer_malformed (by simpa using h), State.answer_result_ne_malformed, fun hlen hn hm => ?_,
      fun hlen hs hm => State.answer_mode hlen ((State.modeOk_service hs).trans hm),
      fun hlen hn hs => State.answer_result_ne_mode hlen (State.modeOk_any ?_),
      fun hlen hn hk hm => State.answer_result_ne_mode hlen ?_,
      fun hlen hs hm => State.answer_result_ne_mode hlen ((State.modeOk_service hs).trans hm), fun hk hbody hsvc => ?_⟩
    · refine State.answer_mode hlen ?_
      rw [State.modeOk, hn, hm]
      rfl
    · cases h : k.modeClass
      · exact absurd h hn
      · exact absurd h hs
      · rfl
    · rw [State.modeOk_normal hn hk, hm]
      rfl
    · subst hk hbody
      refine State.answer_mode rfl ?_
      show (!s.serv.mode && (false || s.pins.svc)) = false
      rw [hsvc]
      simp
  · have hnormal (hmode : s.serv.mode = false) : s.modeOk .setTarget = true := by
      rw [State.modeOk_normal rfl (by decide), hmode]
      rfl
    refine ⟨fun h => ?_, fun h => ?_, fun hmode h => ?_, fun hmode hx hladder hstep => ?_⟩
    · rw [State.answer_own rfl (State.modeOk_any rfl)]
      show State.answerSetTrace s [x, y, z] = _
      have hout : traceSettingsInRange [x, y, z] = false := by
        rw [Bool.eq_false_iff]
        intro htrue
        simp only [traceSettingsInRange, b8, Bool.and_eq_true, decide_eq_true_eq, List.getD_cons_zero,
          List.getD_cons_succ] at htrue
        omega
      rw [State.answerSetTrace, hout]
      rfl
    · rw [State.answer_own rfl (State.modeOk_any rfl)]
      exact if_pos h
    · rw [State.answer_own rfl (hnormal hmode)]
      exact if_pos h
    · rw [State.answer_own rfl (hnormal hmode)]
      show State.answerSetTarget s [x] = _
      have hbad : s.spin.badTarget x.toNat = true := by simp [Spin.badTarget, hladder, hstep]
      rw [State.answerSetTarget, if_neg (by exact Nat.not_lt.2 hx), if_pos (by exact hbad)]
      rfl
  · have hown {k : RequestKind} {b : List Octet} (hlen : k.lengthOk b = true) (hk : k.modeClass = .service) :=
      State.answer_own hlen ((State.modeOk_service (s := s) hk).trans hmode)
    refine ⟨fun h => ?_, fun h => ?_, fun h => ?_, fun h => ?_, fun hx h1 h400 hnone => ?_⟩
    · rw [hown rfl rfl]
      exact if_pos h
    · rw [hown rfl rfl]
      exact if_pos h
    · rw [hown rfl rfl]
      show State.answerExamine s [x, y, z] = _
      have hout : s.examineInRange [x, y, z] = false := by
        rw [Bool.eq_false_iff]
        intro htrue
        simp only [State.examineInRange, within, b8, Bool.and_eq_true, decide_eq_true_eq, List.getD_cons_zero,
          List.getD_cons_succ] at htrue
        obtain ⟨⟨⟨h1, h8⟩, ht⟩, hi⟩ := htrue
        rw [s.examineItems_length ht] at hi
        obtain h | h | h | h := h
        · exact absurd h (Nat.not_lt.2 ht)
        · exact absurd hi (Nat.not_lt.2 h)
        · omega
        · exact absurd h (Nat.not_lt.2 h8)
      rw [State.answerExamine, hout]
      rfl
    · rw [hown rfl rfl]
      exact State.answerManualFill_range h
    · rw [hown rfl rfl]
      show State.answerManualFill s [x, y, z] = _
      exact State.answerManualFill_notReady (b := [x, y, z]) hx h1 h400 hnone
  · intro body small slotRange
    have hown : s.answer .deposit body = s.answerDeposit body :=
      State.answer_own rfl ((State.modeOk_service rfl).trans hmode)
    have hpair : bPair body 3 = ⟨(re' ++ re).toInt, (im' ++ im).toInt⟩ := by
      rw [← sval16_eq_append, ← sval16_eq_append]
      rfl
    have hslot : depositSlotInRange body = true ↔ ¬ slotRange := by
      simp only [depositSlotInRange, hpair, slotRange, small, Bool.and_eq_true, Bool.or_eq_true, decide_eq_true_eq,
        octet_ne_zero_iff]
      show (((((i.toNat ≤ 11 ∧ g.toNat ≤ 3) ∧ v.toNat ≤ 2) ∧ f.toNat ≤ 1) ∧ n'.toNat * 256 + n.toNat = 0)
        ∧ (v.toNat = 0 ∨ 16 ≤ mag _)) ↔ _
      omega
    have hchamber : depositChamberInRange body = true ↔
        ¬ (3 < i.toNat ∨ g ≠ 0 ∨ re' ≠ 0 ∨ re ≠ 0 ∨ im' ≠ 0 ∨ im ≠ 0 ∨ v ≠ 0 ∨ f ≠ 0) := by
      simp only [depositChamberInRange, Bool.and_eq_true, decide_eq_true_eq, octet_ne_zero_iff]
      show (((((i.toNat ≤ 3 ∧ g.toNat = 0) ∧ re'.toNat * 256 + re.toNat = 0) ∧ im'.toNat * 256 + im.toNat = 0)
        ∧ v.toNat = 0) ∧ f.toNat = 0) ↔ _
      omega
    rw [hown]
    refine ⟨fun h2 h3 => ?_, fun h hbad => ?_, fun h hgood hv hflush => ?_, fun h hbad => ?_⟩
    · have hne (o : Octet) (h : t ≠ o) : ¬ b8 body 0 = o.toNat := fun heq => h (BitVec.eq_of_toNat_eq heq)
      have hslot : ¬ b8 body 0 = targetSlot := hne 2 h2
      have hchamber : ¬ b8 body 0 = targetChamber := hne 3 h3
      rw [State.answerDeposit, if_neg hslot, if_neg hchamber]
      rfl
    · subst h
      rw [State.answerDeposit_slot, State.answerDepositSlot, Bool.eq_false_iff.2 fun htrue => hslot.1 htrue hbad]
      rfl
    · subst h hv
      have hclearing : s.table.flush.isClearing = true := by
        cases hf : s.table.flush with
        | quiet => exact absurd hf hflush
        | clearing pos timer p => rfl
      have hstandby : validChoice (b8 body 7) = .standby ∧ s.table.flush.isClearing = true := ⟨rfl, hclearing⟩
      rw [State.answerDeposit_slot, State.answerDepositSlot, hslot.2 hgood, if_neg (by decide), if_pos hstandby]
      rfl
    · subst h
      rw [State.answerDeposit_chamber, State.answerDepositChamber,
        Bool.eq_false_iff.2 fun htrue => hchamber.1 htrue hbad]
      rfl

end Sys2Proof.Machine
end

section
/-! Start Spin (O29, O30). -/

namespace Sys2Proof.Machine

/-! ## Sessions begin, close and end whatever frame is in service -/

section
variable (s : State) (f : Frame)

theorem State.serving_sessionEnded : (s.serving f).sessionEnded = s.sessionEnded.serving f := by
  unfold State.sessionEnded
  rw [← State.serving_report, ← State.serving_report]
  rfl

theorem State.endedIfStopped_stopped {s : State} (h : s.rot.stopped = true) : s.endedIfStopped = s.sessionEnded :=
  if_pos h

theorem State.endedIfStopped_turning {s : State} (h : s.rot.stopped = false) : s.endedIfStopped = s :=
  if_neg (ne_true_of_eq_false h)

theorem State.serving_endedIfStopped : (s.serving f).endedIfStopped = s.endedIfStopped.serving f := by
  by_cases h : s.rot.stopped = true
  · rw [State.endedIfStopped, State.endedIfStopped, if_pos h, if_pos (by exact h), State.serving_sessionEnded]
  · rw [State.endedIfStopped, State.endedIfStopped, if_neg h, if_neg (by exact h)]

theorem State.serving_plateauLeft : (s.serving f).plateauLeft = s.plateauLeft.serving f := by
  by_cases h : s.spin.state = .balancing
  · rw [State.plateauLeft, State.plateauLeft, if_pos h, if_pos (by exact h), State.serving_endAll]
  · rw [State.plateauLeft, State.plateauLeft, if_neg h, if_neg (by exact h)]

theorem State.serving_sessionClosed (new : SpinState) (c : Cause) (den brk : Bool) :
    (s.serving f).sessionClosed new c den brk = (s.sessionClosed new c den brk).serving f := by
  have hleft := s.serving_plateauLeft f
  unfold State.plateauLeft at hleft
  unfold State.sessionClosed
  rw [← State.serving_report]
  dsimp only
  rw [hleft]
  rfl

theorem State.serving_descending (i : Nat) (reason : StateReason) :
    (s.serving f).descending i reason = (s.descending i reason).serving f := by
  have hleft := s.serving_plateauLeft f
  unfold State.plateauLeft at hleft
  unfold State.descending
  rw [← State.serving_report]
  dsimp only
  rw [hleft]
  rfl

theorem State.abortOn_running {s : State} (h : s.spin.state.active = true ∨ s.spin.state = .winddown) (c : Cause) :
    s.abortOn c = (s.sessionClosed .aborting c false true).endedIfStopped := by
  have hrun : (s.spin.state.active || s.spin.state == .winddown) = true := by simpa using h
  rw [State.abortOn, if_pos hrun, State.enterAborting_eq]

theorem State.abortOn_idle {s : State} (h : s.spin.state = .idle ∨ s.spin.state = .aborting) (c : Cause) :
    s.abortOn c = s := by
  rw [State.abortOn, if_neg]
  obtain h | h := h <;> rw [h] <;> decide

/-! ## The session's record at its beginning (R116) -/

/-- R116: what an accepted Start Spin makes of the state while DFLT is deasserted. -/
theorem Sampler.startSession_eq (m : Sampler) : m.startSession =
    { m with conv := m.conv.map (fun v => { v with dest := .nowhere }), idleStrike := false } := by
  have hconv : m.startSession.conv = m.conv.map (fun v => { v with dest := .nowhere }) := by
    show ((m.conv.map _).map _) = _
    rw [Option.map_map]
    congr 1
    funext ⟨timer, dest⟩
    cases dest <;> rfl
  rw [← hconv]
  rfl

/-- R116: the session that begins, before a DFLT asserted at that moment aborts it. -/
def State.sessionBegun (s : State) (t seconds : Nat) (continuation : Bool) : State :=
  (s.prepareSession t seconds continuation).enter .weighing .start

variable {s} (t seconds : Nat) (continuation : Bool)

theorem State.serving_sessionBegun : (s.serving f).sessionBegun t seconds continuation =
    (s.sessionBegun t seconds continuation).serving f := by
  unfold State.sessionBegun State.enter
  rw [← State.serving_report]
  rfl

theorem State.beginSession_ready (h : s.pins.dflt = false) :
    s.beginSession t seconds continuation = s.sessionBegun t seconds continuation :=
  if_neg (by exact ne_true_of_eq_false h)

theorem State.beginSession_faulted (h : s.pins.dflt = true) : s.beginSession t seconds continuation =
    ((s.sessionBegun t seconds continuation).sessionClosed .aborting .drive false true).endedIfStopped := by
  rw [← State.abortOn_running (.inl rfl)]
  exact if_pos h

end

/-- R118: the session timer's period. -/
theorem msTimer_seconds (now : Stamp) (seconds : Nat) : msTimer now (seconds * 1000) = ⟨now, seconds * 1000000⟩ := by
  rw [msTimer, Nat.mul_assoc]

/-! ## Start Spin's checks (R115) -/

section
variable {t d : Nat} {cont : Bool} (ht : t ≤ 11) (h30 : 30 ≤ d) (h1800 : d ≤ 1800)

include ht in
theorem startBody_target : b8 (startBody t d cont) 0 = t := u8_toNat_lt (by omega)

include h1800 in
theorem startBody_duration : b16 (startBody t d cont) 1 = d := val16_u8 (by omega)

theorem startBody_flag : flagBit (startBody t d cont) 3 0 = cont := by
  show decide ((boolOctet cont).toNat / 2 ^ 0 % 2 = 1) = cont
  cases cont <;> decide

include ht h30 h1800 in
theorem startBody_inRange : startInRange (startBody t d cont) = true := by
  have hflag : b8 (startBody t d cont) 3 ≤ 1 := by
    show (boolOctet cont).toNat ≤ 1
    cases cont <;> decide
  simp [startInRange, within, startBody_target ht, startBody_duration h1800, hflag, ht, h30, h1800]

end

/-- R96: the combinations of a Start Spin. -/
theorem Spin.badStart_false_iff (p : Spin) (t : Nat) : p.badStart t = false ↔
    (p.ladder ≠ [] ∧ p.params.isSome = true → p.par.weighHigh < p.speedOf 0
      ∧ p.par.holdSpeed ≤ p.speedOf (p.ladder.length - 1) ∧ p.isDwell t = true) := by
  rw [Spin.badStart, show p.ladder.length - 1 = p.topStep from rfl]
  cases hp : p.params with
  | none => simp
  | some v =>
    by_cases hl : p.ladder = []
    · simp [hl]
    · have hne : p.ladder.isEmpty = false := by simpa using hl
      simp [hl, hne, Spin.par, hp, Spin.badTarget, and_assoc]

section
variable {s : State} {b : List Octet}

theorem State.answerStartSpin_range (h : startInRange b = false) : s.answerStartSpin b = s.refuse .range := by
  rw [State.answerStartSpin, h]
  rfl

variable (hin : startInRange b = true)
include hin

theorem State.answerStartSpin_combination (h : s.spin.badStart (b8 b 0) = true) :
    s.answerStartSpin b = s.refuse .combination := by
  rw [State.answerStartSpin, hin, h]
  rfl

variable (hgood : s.spin.badStart (b8 b 0) = false)
include hgood

theorem State.answerStartSpin_state (h : s.spin.state ≠ .idle) : s.answerStartSpin b = s.refuse .state := by
  rw [State.answerStartSpin, hin, hgood, if_neg (by decide), if_neg (by decide), if_pos h]

variable (hidle : s.spin.state = .idle)
include hidle

theorem State.answerStartSpin_noProfile (h : s.profileComplete = false) :
    s.answerStartSpin b = ⟨s, .noProfile, [s.profileMarks]⟩ := by
  rw [State.answerStartSpin, hin, hgood, if_neg (by decide), if_neg (by decide), if_neg (by simp [hidle]), h]
  rfl

variable (hprofile : s.profileComplete = true)
include hprofile

theorem State.answerStartSpin_fault {v : SupplyFault} (h : s.cham.pendingFault = some v) :
    s.answerStartSpin b = s.refuseSupply v := by
  rw [State.answerStartSpin, hin, hgood, if_neg (by decide), if_neg (by decide), if_neg (by simp [hidle]), hprofile,
    if_neg (by decide), h]

theorem State.answerStartSpin_accepted (h : s.cham.pendingFault = none) : s.answerStartSpin b =
    (s.beginSession (b8 b 0) (b16 b 1) (flagBit b 3 0)).accept
      [u8 (s.beginSession (b8 b 0) (b16 b 1) (flagBit b 3 0)).spin.attempts] := by
  rw [State.answerStartSpin, hin, hgood, if_neg (by decide), if_neg (by decide), if_neg (by simp [hidle]), hprofile,
    if_neg (by decide), h]

end

theorem exec_startSpin {w : Wait} {tag : Octet} {body : List Octet} {s : State} (hempty : s.link.inService = none)
    (hmode : s.serv.mode = false) (hlength : body.length = 4) {t : State} {r : ResultCode} {fields : List Octet}
    (h : ((s.begin w).serving ⟨0x18, tag, body⟩).answerStartSpin body = ⟨t.serving ⟨0x18, tag, body⟩, r, fields⟩) :
    exec (.startSpin w tag body) s = .next (t.replied ⟨0x18, tag, body⟩ ⟨0x58, tag, r, fields⟩).arbitrate :=
  exec_request (c := .startSpin w tag body) (k := .startSpin) rfl hempty rfl (decide_eq_true hlength)
    (State.modeOk_out_of_service (w := w) rfl (by decide) hmode) h

/-- R96, R115: a Start Spin that names a DWELL step of a complete profile passes its combination checks. -/
theorem startSpin_passes {s : State} {t : Nat} {p : Params} (hladder : s.spin.ladder ≠ [])
    (hparams : s.spin.params = some p) (hloaded : ∀ i, i < s.spin.ladder.length → tget s.table.loaded i false = true)
    (hweigh : p.weighHigh < s.spin.speedOf 0) (hhold : p.holdSpeed ≤ s.spin.speedOf (s.spin.ladder.length - 1))
    (hdwell : s.spin.isDwell t = true) :
    s.spin.par = p ∧ s.spin.badStart t = false ∧ s.profileComplete = true := by
  have hpar : s.spin.par = p := by rw [Spin.par, hparams]; rfl
  refine ⟨hpar, (s.spin.badStart_false_iff t).2 fun _ => ?_,
    s.profileComplete_iff.2 ⟨hladder, by rw [hparams]; rfl, hloaded⟩⟩
  rw [hpar]
  exact ⟨hweigh, hhold, hdwell⟩

/-- Settles O29. -/
theorem startSpinBeginsASession : Obligations.StartSpinBeginsASession := by
  unfold Obligations.StartSpinBeginsASession
  refine ⟨fun w tag t d cont p s hempty hmode hidle ht h30 h1800 hladder hparams hloaded hweigh hhold hdwell hfault
    hdflt => exec_startSpin hempty hmode rfl ?_, fun w tag t hi lo fl s hempty hmode => ?_⟩
  · obtain ⟨hpar, hgood, hprofile⟩ := startSpin_passes hladder hparams hloaded hweigh hhold hdwell
    have htarget : b8 (startBody t d cont) 0 = t := startBody_target ht
    rw [State.answerStartSpin_accepted (s := (s.begin w).serving ⟨0x18, tag, startBody t d cont⟩)
      (startBody_inRange ht h30 h1800) (by rw [htarget]; exact hgood) hidle hprofile hfault, htarget,
      startBody_duration h1800, startBody_flag, State.beginSession_ready _ _ _ (by exact hdflt), State.serving_sessionBegun,
      State.sessionBegun, State.prepareSession, State.begin_samp, Sampler.startSession_eq, Spin.begin,
      State.begin_spin, hpar, msTimer_seconds]
    rw [State.enter]
    dsimp only [Spin.noRamp]
    rw [hidle]
    rfl
  · intro refused' d ranged loaded agree baseline
    have hchecks (r : ResultCode) (marks : List Octet) :=
      exec_startSpin (w := w) (tag := tag) (body := [t, hi, lo, fl]) hempty hmode rfl (t := s.begin w) (r := r)
        (fields := marks)
    have hrange : startInRange [t, hi, lo, fl] = true ↔ ranged := by
      simp only [startInRange, within, Bool.and_eq_true, decide_eq_true_eq, ranged, and_assoc]
      rfl
    have hagree : s.spin.badStart t.toNat = false ↔ agree := s.spin.badStart_false_iff t.toNat
    have hmarks : s.profileComplete = true ↔ loaded ∧ baseline :=
      s.profileComplete_iff.trans and_assoc.symm
    refine ⟨fun hr => hchecks _ _ ?_, fun hr ha => hchecks _ _ ?_, fun hr ha hbusy => hchecks _ _ ?_,
      fun hr ha hidle hp => hchecks _ _ ?_⟩
    · rw [State.answerStartSpin_range (Bool.eq_false_iff.2 (mt hrange.1 hr))]
      rfl
    · have hbad : s.spin.badStart t.toNat = true := by simpa using mt hagree.1 ha
      rw [State.answerStartSpin_combination (hrange.2 hr) (by exact hbad)]
      rfl
    · exact State.answerStartSpin_state (s := (s.begin w).serving ⟨0x18, tag, [t, hi, lo, fl]⟩) (hrange.2 hr)
        (hagree.2 ha) hbusy
    · have hbaseline : s.baselineComplete = decide baseline := by
        rw [Bool.eq_iff_iff, decide_eq_true_iff]
        simp [State.baselineComplete, Spin.stepCount, baseline]
      rw [State.answerStartSpin_noProfile (s := (s.begin w).serving ⟨0x18, tag, [t, hi, lo, fl]⟩) (hrange.2 hr)
        (hagree.2 ha) hidle (Bool.eq_false_iff.2 (mt hmarks.1 hp)), Bool.decide_and, ← hbaseline,
        ← boolOctet_decide_isEmpty]
      rfl

/-- Settles O30. -/
theorem startSpinUnderAFault : Obligations.StartSpinUnderAFault := by
  unfold Obligations.StartSpinUnderAFault
  refine ⟨fun w tag t d cont p s hempty hmode hidle ht h30 h1800 hladder hparams hloaded hweigh hhold hdwell hfault
    hdflt => ?_, fun w tag t d cont c g p v s hempty hfault hparams => ⟨fun hmode hidle ht h30 h1800 hladder hloaded
      hweigh hhold hdwell => exec_startSpin hempty hmode rfl ?_, fun hmode h1 h400 => ?_⟩⟩
  · obtain ⟨hpar, hgood, hprofile⟩ := startSpin_passes hladder hparams hloaded hweigh hhold hdwell
    have htarget : b8 (startBody t d cont) 0 = t := startBody_target ht
    have hexec (hattempts : (((s.begin w).sessionBegun t d cont).sessionClosed .aborting .drive false
        true).endedIfStopped.spin.attempts = if cont = true then s.spin.attempts else 0) :
        exec (.startSpin w tag (startBody t d cont)) s = .next ((((s.begin w).sessionBegun t d cont).sessionClosed
          .aborting .drive false true).endedIfStopped.replied ⟨0x18, tag, startBody t d cont⟩
            ⟨0x58, tag, .ok, [u8 (if cont = true then s.spin.attempts else 0)]⟩).arbitrate := by
      refine exec_startSpin hempty hmode rfl ?_
      rw [State.answerStartSpin_accepted (s := (s.begin w).serving ⟨0x18, tag, startBody t d cont⟩)
        (startBody_inRange ht h30 h1800) (by rw [htarget]; exact hgood) hidle hprofile hfault, htarget,
        startBody_duration h1800, startBody_flag, State.beginSession_faulted _ _ _ (by exact hdflt),
        State.serving_sessionBegun, State.serving_sessionClosed, State.serving_endedIfStopped, State.serving_spin,
        hattempts]
      rfl
    cases hstop : s.rot.stopped with
    | true =>
      rw [State.endedIfStopped_stopped (by exact hstop)] at hexec
      exact ⟨_, hexec rfl, rfl, rfl, rfl, rfl, rfl, nofun, fun _ => ⟨rfl, rfl, rfl, rfl⟩, _, rfl, rfl, rfl, rfl⟩
    | false =>
      rw [State.endedIfStopped_turning (by exact hstop)] at hexec
      exact ⟨_, hexec rfl, rfl, rfl, rfl, rfl, rfl, fun _ => ⟨rfl, rfl, rfl⟩, nofun, _, rfl, rfl, rfl, rfl⟩
  · obtain ⟨-, hgood, hprofile⟩ := startSpin_passes hladder hparams hloaded hweigh hhold hdwell
    have htarget : b8 (startBody t d cont) 0 = t := startBody_target ht
    rw [State.answerStartSpin_fault (s := (s.begin w).serving ⟨0x18, tag, startBody t d cont⟩)
      (startBody_inRange ht h30 h1800) (by rw [htarget]; exact hgood) hidle hprofile hfault]
    cases v <;> rfl
  · have hamount : b16 (u8 c.val :: u16 g) 1 = g := val16_u8 (by omega)
    have hchamber : b8 (u8 c.val :: u16 g) 0 = c.val := u8_toNat_lt (by omega)
    refine exec_request rfl hempty rfl rfl ((State.modeOk_service rfl).trans hmode) ?_
    show State.answerManualFill ((s.begin w).serving ⟨0x34, tag, u8 c.val :: u16 g⟩) (u8 c.val :: u16 g) = _
    rw [State.answerManualFill_fault (by rw [hchamber]; omega) (by rw [hamount]; exact h1)
      (by rw [hamount]; exact h400) (by exact hparams) (by exact hfault)]
    cases v <;> rfl

end Sys2Proof.Machine
end

section
/-! Set Target, the closing events and the timers of a session (O31 to O34). -/

namespace Sys2Proof.Machine

/-! ## Set Target (R128) -/

section
variable {s : State} {n : Nat}

/-- R118: the redirection of a ramp, with its timer written out. -/
theorem State.setRamp_eq (s : State) (i : Nat) (dir : Dir) : s.setRamp i dir = s.setSpin { s.spin with
    dest := some i, dir := some dir, demand := s.spin.speedOf i, rampCount := 0
    rampTimer := some ⟨s.time, s.spin.rampUs (s.spin.speedOf i) s.rot.speed⟩ } := by
  rw [State.setRamp, msTimer_rampAllowanceMs]

theorem Spin.below_eq (p : Spin) (t : Nat) : p.below t = p.dwell.any (fun c => t < c) := by
  unfold Spin.below
  cases p.dwell <;> rfl

theorem State.applyTarget_weighing (h : s.spin.state = .weighing) : s.applyTarget n = s := by
  rw [State.applyTarget, h]

theorem State.applyTarget_ahead (h : s.spin.state = .ramping) (hn : s.spin.dest.getD 0 ≤ n) : s.applyTarget n = s := by
  rw [State.applyTarget, h]
  exact if_pos hn

theorem State.applyTarget_descends (h : s.spin.state = .ramping) (hn : n < s.spin.dest.getD 0)
    (hbelow : s.spin.below n = true) : s.applyTarget n = s.descending n .target := by
  rw [State.applyTarget, h, hbelow, ← State.startRetreating_eq]
  exact if_neg (Nat.not_le.2 hn)

theorem State.applyTarget_redirects (h : s.spin.state = .ramping) (hn : n < s.spin.dest.getD 0)
    (hbelow : s.spin.below n = false) : s.applyTarget n = s.setRamp n (s.rampDir n) := by
  rw [State.applyTarget, h, hbelow]
  exact if_neg (Nat.not_le.2 hn)

theorem State.applyTarget_plateau (h : s.spin.state = .settling ∨ s.spin.state = .measuring ∨ s.spin.state = .balancing) :
    s.applyTarget n = if s.spin.below n = true then s.descending n .target else s := by
  rw [← State.startRetreating_eq]
  obtain h | h | h := h <;> rw [State.applyTarget, h]

end

theorem exec_setTarget {w : Wait} {tag t : Octet} {s : State} (hempty : s.link.inService = none)
    (hmode : s.serv.mode = false) {u : State} {r : ResultCode} {fields : List Octet}
    (h : ((s.begin w).serving ⟨0x19, tag, [t]⟩).answerSetTarget [t] = ⟨u.serving ⟨0x19, tag, [t]⟩, r, fields⟩) :
    exec (.setTarget w tag [t]) s = .next (u.replied ⟨0x19, tag, [t]⟩ ⟨0x59, tag, r, fields⟩).arbitrate :=
  exec_request (c := .setTarget w tag [t]) (k := .setTarget) rfl hempty rfl rfl
    (State.modeOk_out_of_service (w := w) rfl (by decide) hmode) h

section
variable {s : State} {t : Octet}

theorem State.answerSetTarget_refused (ht : t.toNat ≤ 11) (hdwell : s.spin.isDwell t.toNat = true)
    (h : s.spin.state.takesTarget = false) : s.answerSetTarget [t] = s.refuse .state := by
  have hgood : s.spin.badTarget t.toNat = false := by simp [Spin.badTarget, hdwell]
  rw [State.answerSetTarget, if_neg (by exact Nat.not_lt.2 ht), if_neg (by exact ne_true_of_eq_false hgood), h]
  rfl

theorem State.answerSetTarget_taken (ht : t.toNat ≤ 11) (hdwell : s.spin.isDwell t.toNat = true)
    (h : s.spin.state.takesTarget = true) {u : State}
    (hu : (s.setSpin { s.spin with target := some t.toNat }).applyTarget t.toNat = u) :
    s.answerSetTarget [t] = u.accept [stepOctet u.spin.target, stepOctet u.spin.goal] := by
  have hgood : s.spin.badTarget t.toNat = false := by simp [Spin.badTarget, hdwell]
  rw [State.answerSetTarget, if_neg (by exact Nat.not_lt.2 ht), if_neg (by exact ne_true_of_eq_false hgood), h,
    if_neg (by decide), ← hu]
  rfl

end

/-- Settles O31. -/
theorem setTargetByState : Obligations.SetTargetByState := by
  unfold Obligations.SetTargetByState
  intro w tag t s hempty hmode ht hdwell
  have hgoal (p : Spin) (htarget : p.target = some t.toNat) (hceiling : p.ceiling = s.spin.ceiling) :
      [stepOctet p.target, stepOctet p.goal] = [t, stepOctet (s.spin.ceiling.map (fun c => min t.toNat c))] := by
    rw [Spin.goal, htarget, hceiling]
    cases s.spin.ceiling <;> simp [stepOctet]
  -- an accepted target: what applyTarget makes of the state with the new target
  have htaken (u : State) (hstate : s.spin.state.takesTarget = true)
      (hu : (((s.begin w).serving ⟨0x19, tag, [t]⟩).setSpin { s.spin with target := some t.toNat }).applyTarget
        t.toNat = u.serving ⟨0x19, tag, [t]⟩)
      (htarget : u.spin.target = some t.toNat) (hceiling : u.spin.ceiling = s.spin.ceiling) :
      exec (.setTarget w tag [t]) s = .next (u.okReply ⟨0x19, tag, [t]⟩
        [t, stepOctet (s.spin.ceiling.map (fun c => min t.toNat c))]).arbitrate := by
    refine exec_setTarget hempty hmode ?_
    rw [State.answerSetTarget_taken (s := (s.begin w).serving ⟨0x19, tag, [t]⟩) ht hdwell hstate hu, State.serving_spin, hgoal u.spin htarget hceiling]
    rfl
  intro b n f x answer descent plateau
  let y := ((s.begin w).serving ⟨0x19, tag, [t]⟩).setSpin { s.spin with target := some t.toNat }
  refine ⟨fun h => ?_, fun h hahead => ?_, fun h hback hstay => ?_, fun h hback hdown => ?_, fun h hstay => ?_,
    fun h hdown => ?_, fun h => ?_⟩
  · refine htaken x (by rw [h]; rfl) (State.applyTarget_weighing h) rfl rfl
  · refine htaken x (by rw [h]; rfl) (State.applyTarget_ahead h hahead) rfl rfl
  · refine htaken _ (by rw [h]; rfl) ?_ rfl rfl
    refine (State.applyTarget_redirects (s := y) h hback (by rw [Spin.below_eq]; exact hstay)).trans ?_
    rw [State.setRamp_eq]
    rfl
  · refine htaken _ (by rw [h]; rfl) ?_ rfl rfl
    refine (State.applyTarget_descends (s := y) h hback (by rw [Spin.below_eq]; exact hdown)).trans ?_
    exact State.serving_descending x f n .target
  · refine htaken x (by obtain h | h | h := h <;> rw [h] <;> rfl) ?_ rfl rfl
    refine (State.applyTarget_plateau (s := y) h).trans ?_
    rw [Spin.below_eq]
    exact if_neg (ne_true_of_eq_false hstay)
  · refine htaken (x.descending n .target) (by obtain h | h | h := h <;> rw [h] <;> rfl) ?_ rfl rfl
    refine (State.applyTarget_plateau (s := y) h).trans ?_
    rw [Spin.below_eq, ← State.serving_descending]
    exact if_pos hdown
  · refine exec_setTarget hempty hmode ?_
    rw [State.answerSetTarget_refused (s := (s.begin w).serving ⟨0x19, tag, [t]⟩) ht hdwell (by obtain h | h | h | h := h <;> exact (congrArg _ h).trans rfl)]
    rfl

/-! ## Closing a session (R129, R130, R133) -/

theorem exec_stop {w : Wait} {tag : Octet} {s : State} (hempty : s.link.inService = none)
    (hmode : s.serv.mode = false) {u : State} {r : ResultCode} {fields : List Octet}
    (h : ((s.begin w).serving ⟨0x1A, tag, []⟩).answerStop = ⟨u.serving ⟨0x1A, tag, []⟩, r, fields⟩) :
    exec (.stop w tag []) s = .next (u.replied ⟨0x1A, tag, []⟩ ⟨0x5A, tag, r, fields⟩).arbitrate :=
  exec_request (c := .stop w tag []) (k := .stop) rfl hempty rfl rfl
    (State.modeOk_out_of_service (w := w) rfl (by decide) hmode) h

theorem exec_dfltAsserted (w : Wait) (s : State) :
    exec (.dfltAsserted w) s = .next (s.begin w).driveFault.arbitrate := exec_eq _ _

theorem exec_sessionTimerExpiry (w : Wait) (s : State) : exec (.sessionTimerExpiry w) s =
    .next ((s.begin w).whenDue s.spin.sessionTimer State.durationEnds).arbitrate := exec_eq _ _

theorem exec_rampTimeout (w : Wait) (s : State) : exec (.rampTimeout w) s =
    .next ((s.begin w).whenDue s.spin.rampTimer State.rampTimeout).arbitrate := exec_eq _ _

theorem exec_weighLimitExpiry (w : Wait) (s : State) : exec (.weighLimitExpiry w) s =
    .next ((s.begin w).whenDue s.weigh.limit State.weighLimit).arbitrate := exec_eq _ _

section
variable {s : State}

theorem State.closeActive_running (h : s.spin.state.active = true) (c : Cause) :
    s.closeActive c = (s.sessionClosed .winddown c s.spin.den s.spin.brk).endedIfStopped := by
  rw [State.closeActive, if_pos h, State.enterWinddown_eq]

theorem State.closeActive_idle (h : s.spin.state.active = false) (c : Cause) : s.closeActive c = s := by
  rw [State.closeActive, if_neg (ne_true_of_eq_false h)]

/-- R138: the state a closed session is in: IDLE at once on a standing basket. -/
theorem State.closed_code (s : State) (c : Cause) (den brk : Bool) :
    u8 (s.sessionClosed .winddown c den brk).endedIfStopped.spin.state.code =
      if s.rot.stopped = true then 8 else 6 := by
  have hstopped : (s.sessionClosed .winddown c den brk).rot.stopped = s.rot.stopped :=
    congrArg Rotation.stopped s.plateauLeft_frame.rot
  unfold State.endedIfStopped
  rw [hstopped]
  by_cases h : s.rot.stopped = true
  · rw [if_pos h, if_pos h]
    rfl
  · rw [if_neg h, if_neg h]
    rfl

theorem State.answerStop_eq (u : State) (f : Frame) (h : s.closeActive .stop = u.serving f) :
    s.answerStop = ⟨u.serving f, .ok, [u8 u.spin.state.code]⟩ := by
  rw [State.answerStop, h]
  rfl

end

/-- Settles O32. -/
theorem closingEvents : Obligations.ClosingEvents := by
  unfold Obligations.ClosingEvents
  refine ⟨fun w tag s hactive => ?_, fun w tag s => ?_⟩
  · refine ⟨fun hempty hmode => ?_, fun hdue => ?_, ?_⟩
    · refine exec_stop hempty hmode ?_
      rw [State.answerStop_eq _ _ ((State.closeActive_running (s := (s.begin w).serving ⟨0x1A, tag, []⟩) hactive _).trans
        (by rw [State.serving_sessionClosed, State.serving_endedIfStopped])), State.closed_code]
      rfl
    · rw [exec_sessionTimerExpiry, State.whenDue_due (s.begin w) hdue, State.durationEnds,
        State.closeActive_running (s := s.begin w) hactive]
      rfl
    · rw [exec_dfltAsserted, State.driveFault, State.abortOn_running (by exact .inl hactive)]
  · refine ⟨fun hactive hempty hmode => ?_, fun hearly => ?_, fun h => ?_, fun h => ?_⟩
    · refine exec_stop hempty hmode ?_
      rw [State.answerStop_eq (s.begin w) _
        (State.closeActive_idle (s := (s.begin w).serving ⟨0x1A, tag, []⟩) hactive _)]
      rfl
    · rw [exec_sessionTimerExpiry, State.whenDue_early (s.begin w) hearly]
    · rw [exec_dfltAsserted, State.driveFault, State.abortOn_idle (by exact h)]
    · rw [exec_dfltAsserted, State.driveFault, State.abortOn_running (by exact .inr h)]

/-! ## The ramp timer (R126, R127) -/

theorem State.plateauLeft_elsewhere {s : State} (h : s.spin.state ≠ .balancing) : s.plateauLeft = s := if_neg h

/-- R118: a descent from a state other than BALANCING, where no fill is to be stopped. -/
theorem State.descending_elsewhere {s : State} (h : s.spin.state ≠ .balancing) (i : Nat) (reason : StateReason) :
    s.descending i reason = giveReport
      (.state ⟨.retreating, s.spin.state, reason, s.spin.dwell, some i, some .down, s.spin.target, s.spin.ceiling,
        s.spin.speedOf i⟩)
      { s with
        spin := { s.spin with
          state := .retreating, dest := some i, dir := some .down, demand := s.spin.speedOf i, rampCount := 0
          rampTimer := some ⟨s.time, s.spin.rampUs (s.spin.speedOf i) s.rot.speed⟩, plans := 0 }
        est := { s.est with window := [], m := 0, preFill := none } } := by
  have hleft := State.plateauLeft_elsewhere h
  unfold State.plateauLeft at hleft
  rw [State.descending, hleft]

/-- R126: an UP ramp that falls short. Of the lowered ceiling only the ceiling itself outlives the start of the descent. -/
theorem State.shortfall_eq {s : State} (h : s.spin.state = .ramping) (i : Nat) : s.shortfall i =
    (giveReport (.ceiling ⟨s.spin.dwellBelow i, s.spin.ceiling, .shortfall, s.spin.dwell, s.spin.target⟩)
      (s.setSpin { s.spin with ceiling := some (s.spin.dwellBelow i) })).descending (s.spin.dwellBelow i)
      .shortfall := by
  have hramp : s.spin.state ≠ .balancing := by rw [h]; decide
  rw [State.shortfall, State.lowerCeiling, State.startRetreating_eq, State.descending_elsewhere (by exact hramp),
    State.descending_elsewhere (by exact hramp)]
  rfl

/-- Settles O33. -/
theorem rampTimeoutTurnsOrAborts : Obligations.RampTimeoutTurnsOrAborts := by
  unfold Obligations.RampTimeoutTurnsOrAborts
  intro w s
  refine ⟨fun hearly => ?_, fun hdue hstate hup hpos => ?_, fun hdue hramp hturn => ?_⟩
  · rw [exec_rampTimeout, State.whenDue_early (s.begin w) hearly]
  · rw [exec_rampTimeout, State.whenDue_due (s.begin w) hdue, State.rampTimeout,
      if_pos (by exact ⟨hup, hpos⟩), State.shortfall_eq (s := s.begin w) hstate]
    rfl
  · have hactive : s.spin.state.active = true := by
      cases hst : s.spin.state <;> rw [hst] at hramp <;> revert hramp <;> decide
    have hno : ¬(s.spin.dir = some .up ∧ 0 < s.spin.dest.getD 0) := by
      rintro ⟨hup, hpos⟩
      exact hturn.elim (· hup) (Nat.ne_of_gt hpos)
    rw [exec_rampTimeout, State.whenDue_due (s.begin w) hdue, State.rampTimeout, if_neg (by exact hno),
      State.abortOn_running (by exact .inl hactive)]

/-! ## The weigh limit (R56) -/

theorem Weigh.tAcc_eq (w : Weigh) : w.tAcc =
    if w.t1.isSome = true ∧ w.nAcc ≠ 0 then some ⟨w.accSum / w.nAcc, w.nAcc⟩ else none := by
  unfold Weigh.tAcc meanOf
  cases w.t1 <;> simp

theorem Weigh.dt_eq (w : Weigh) : w.dt =
    w.t1.bind (fun p => w.t2.map (fun q => (q.stamp - p.stamp).toNat / 1000)) := by
  unfold Weigh.dt
  cases w.t1 <;> cases w.t2 <;> rfl

/-- R57, R117, R118: the end of a weighing. -/
theorem State.endWeighing_eq {s : State} (h : s.spin.state = .weighing) (e : Weigh × WeighedReport) :
    s.endWeighing e = giveReport
      (.state ⟨.ramping, .weighing, .weighed, s.spin.dwell, some 0, some .up, s.spin.target, s.spin.ceiling,
        s.spin.speedOf 0⟩)
      (giveReport (.weighed e.2)
        { s with
          weigh := e.1
          spin := { s.spin with
            state := .ramping, dest := some 0, dir := some .up, demand := s.spin.speedOf 0, rampCount := 0, plans := 0
            rampTimer := some ⟨s.time, s.spin.rampUs (s.spin.speedOf 0) s.rot.speed⟩ }
          est := { s.est with window := [], m := 0, preFill := none } }) := by
  have hweigh : s.spin.state ≠ .balancing := by rw [h]; decide
  rw [State.endWeighing, State.rampFromWeighing, State.startRamping_eq,
    State.plateauLeft_elsewhere (by exact hweigh), ← h]
  rfl

/-- Settles O34. -/
theorem weighLimitEndsTheWeighing : Obligations.WeighLimitEndsTheWeighing := by
  unfold Obligations.WeighLimitEndsTheWeighing
  intro w s
  refine ⟨fun hearly => ?_, fun hdue hphase hstate => ?_⟩
  · rw [exec_weighLimitExpiry, State.whenDue_early (s.begin w) hearly]
  · rw [exec_weighLimitExpiry, State.whenDue_due (s.begin w) hdue, State.weighLimit, if_neg (by exact hphase),
      State.endWeighing_eq (s := s.begin w) hstate, ← Weigh.tAcc_eq, ← Weigh.dt_eq]
    rfl

end Sys2Proof.Machine
end

section
/-! Orders taken and ended for the service technician, and the arbiter going on (R144, R145, R147; O35). -/

namespace Sys2Proof.Machine

/-! ## The arbiter goes on (R145, R153) -/

section
variable (s : State)

/-- With nothing queued the line closes. -/
theorem State.goOn_last (hf : s.cham.flight = none) (hq : s.cham.queue = []) :
    s.startNext.lineClosed = s.setCham { s.cham with leak := 0 } := by
  rw [s.startNext_empty hq, s.lineClosed_free hf]

/-- A queued order that has room starts, and the line stays open. -/
theorem State.goOn_starts (hf : s.cham.flight = none) {o : Order} {rest : List Order} (hq : s.cham.queue = o :: rest)
    (ha : min o.amount (s.cham.room o.chamber) ≠ 0) : s.startNext.lineClosed = s.setCham { s.cham with
      queue := rest
      flight := some ⟨{ o with amount := min o.amount (s.cham.room o.chamber) }, s.cham.content o.chamber, 0, 0⟩
      supplyTimer := some ⟨s.time, s.spin.par.supplyTimeout * 1000⟩ } := by
  rw [s.startNext_free hf, hq, s.startFrom_starts ha, State.lineClosed_busy]
  · rfl
  · rfl

/-- The line closes after an arbitration that found nothing to start. -/
theorem State.lineClosed_eq :
    s.lineClosed = if s.cham.flight.isSome = true then s else s.setCham { s.cham with leak := 0 } := rfl

/-! ## Ends of the service orders (R147) -/

theorem ChamberCtl.setLastEnd_twice (t : ChamberCtl) (c : Fin 4) (r : EndReason) :
    (t.setLastEnd c r).setLastEnd c r = t.setLastEnd c r := by
  unfold ChamberCtl.setLastEnd
  simp

theorem ChamberCtl.setLastEnds_same (t : ChamberCtl) {c : Fin 4} (r : EndReason) {os : List Order}
    (h : ∀ o ∈ os, o.chamber = c) : (t.setLastEnd c r).setLastEnds r os = t.setLastEnd c r := by
  induction os with
  | nil => rfl
  | cons o rest ih =>
    rw [ChamberCtl.setLastEnds, h o List.mem_cons_self, ChamberCtl.setLastEnd_twice]
    exact ih fun q hq => h q (List.mem_cons_of_mem o hq)

theorem State.endUnstarted_service {o : Order} (ho : o.origin = .service) {os : List Order}
    (hos : ∀ q ∈ os, q.origin = .service) (r : EndReason) : s.endUnstarted o r os =
      giveReport (.fillEnd ⟨o, 0, 0, r, s.cham.content o.chamber, os⟩)
        (s.setCham ((s.cham.setLastEnd o.chamber r).setLastEnds r os)) := by
  rw [State.endUnstarted, State.handEnd_service _ ho, State.handDropped_service _ hos]

theorem State.endAndGoOn_service {f : Flight} (h : s.cham.flight = some f) (ho : f.order.origin = .service)
    (r : EndReason) : s.endAndGoOn r = (s.flightOver f r).startNext.lineClosed := by
  rw [s.endAndGoOn_eq h, State.handEnd_service _ ho]

variable {s}

theorem ChamberCtl.service_flight {t : ChamberCtl} {f : Flight} (h : ∀ o ∈ t.orders, o.origin = .service)
    (hf : t.flight = some f) : f.order.origin = .service :=
  h f.order (by rw [ChamberCtl.orders_some hf]; simp)

theorem ChamberCtl.service_queue {t : ChamberCtl} (h : ∀ o ∈ t.orders, o.origin = .service) :
    ∀ o ∈ t.queue, o.origin = .service := fun o ho => h o (List.mem_append_left _ ho)

/-! ## A new order by its case (R144) -/

theorem ChamberCtl.fillingChamber_other {t : ChamberCtl} {c : Fin 4} (h : ∀ f, t.flight = some f → f.order.chamber ≠ c) :
    ¬ t.fillingChamber c = true := fun hfill => by
  obtain ⟨f, hf, hfc⟩ := (ChamberCtl.fillingChamber_iff _ _).1 hfill
  exact h f hf hfc

theorem State.orderCase_full {o : Order} (h : min o.amount (s.cham.room o.chamber) = 0) : s.orderCase o = .full :=
  if_pos h

theorem State.orderCase_merged {o : Order} (h : min o.amount (s.cham.room o.chamber) ≠ 0)
    (hq : ∃ q ∈ s.cham.queue, q.chamber = o.chamber) : s.orderCase o = .merged := by
  rw [State.orderCase, if_neg h]
  exact if_pos (by simpa using hq)

section
variable {o : Order} (h : min o.amount (s.cham.room o.chamber) ≠ 0) (hq : ¬ ∃ q ∈ s.cham.queue, q.chamber = o.chamber)
include h hq

theorem State.orderCase_unqueued : s.orderCase o =
      if s.cham.fillingChamber o.chamber = true then .replaced
      else if s.cham.flight.isSome = true then .queued else .started := by
  rw [State.orderCase, if_neg h]
  exact if_neg (by simpa using hq)

theorem State.orderCase_replaced {f : Flight} (hf : s.cham.flight = some f) (hc : f.order.chamber = o.chamber) :
    s.orderCase o = .replaced := by
  rw [State.orderCase_unqueued h hq, if_pos ((ChamberCtl.fillingChamber_iff _ _).2 ⟨f, hf, hc⟩)]

theorem State.orderCase_queued {f : Flight} (hf : s.cham.flight = some f) (hc : f.order.chamber ≠ o.chamber) :
    s.orderCase o = .queued := by
  rw [State.orderCase_unqueued h hq, if_neg (ChamberCtl.fillingChamber_other fun g hg => ?_), hf]
  · rfl
  · exact Option.some.inj (hf.symm.trans hg) ▸ hc

theorem State.orderCase_started (hf : s.cham.flight = none) : s.orderCase o = .started := by
  rw [State.orderCase_unqueued h hq, ChamberCtl.fillingChamber, hf]
  rfl

end

end

section
variable (s : State) (f : Frame)

theorem State.serving_endFlight (r : EndReason) : (s.serving f).endFlight r [] = (s.endFlight r []).serving f := by
  cases h : s.cham.flight with
  | none => rw [State.endFlight, State.endFlight, h, State.serving_cham, h]
  | some g =>
    rw [State.endFlight_eq (s.serving f) h, s.endFlight_eq h, State.flightOver, State.serving_setCham,
      State.serving_report, State.serving_handEnd]
    rfl

theorem State.serving_takeOrder (o : Order) : (s.serving f).takeOrder o = (s.takeOrder o).serving f := by
  rw [State.takeOrder, State.takeOrder, show (s.serving f).orderCase o = s.orderCase o from rfl]
  cases s.orderCase o with
  | full => exact State.serving_endUnstarted (s.setCham { s.cham with queue := _ }) f _ _ _
  | merged => rfl
  | replaced =>
    dsimp only
    rw [State.serving_endFlight]
    rfl
  | queued => rfl
  | started => exact State.serving_startNext (s.setCham { s.cham with queue := _ }) f

end

section
variable {s : State} {c : Fin 4} {g : Nat}

theorem State.takeOrder_full (h : min g (s.cham.room c) = 0) (hservice : ∀ o ∈ s.cham.orders, o.origin = .service) :
    s.takeOrder ⟨c, g, .service⟩ = giveReport
      (.fillEnd ⟨⟨c, 0, .service⟩, 0, 0, .capacity, s.cham.content c, s.cham.queue.filter (fun q => q.chamber = c)⟩)
      (s.setCham { s.cham.setLastEnd c .capacity with queue := s.cham.queue.filter (fun q => q.chamber ≠ c) }) := by
  have hclamp : s.clampOrder ⟨c, g, .service⟩ = ⟨c, 0, .service⟩ := congrArg (fun a => (⟨c, a, .service⟩ : Order)) h
  have hgone (q : Order) (hq : q ∈ s.cham.queue.filter (fun q => q.chamber = c)) : q.origin = .service :=
    ChamberCtl.service_queue hservice q (List.mem_filter.1 hq |>.1)
  rw [State.takeOrder, State.orderCase_full (by exact h), hclamp]
  dsimp only
  rw [State.endUnstarted_service _ rfl hgone]
  dsimp only [State.setCham_cham]
  rw [ChamberCtl.setLastEnds_same _ _ fun q hq => by simpa using (List.mem_filter.1 hq).2]
  rfl

theorem State.takeOrder_merged (h : min g (s.cham.room c) ≠ 0) (hq : ∃ q ∈ s.cham.queue, q.chamber = c) :
    s.takeOrder ⟨c, g, .service⟩ = s.setCham { s.cham with
      queue := s.cham.queue.map (fun q => if q.chamber = c then ⟨c, min g (s.cham.room c), .service⟩ else q) } := by
  rw [State.takeOrder, State.orderCase_merged (by exact h) hq]
  rfl

theorem State.takeOrder_replaced (h : min g (s.cham.room c) ≠ 0) (hq : ¬ ∃ q ∈ s.cham.queue, q.chamber = c)
    {f : Flight} (hf : s.cham.flight = some f) (hc : f.order.chamber = c) (ho : f.order.origin = .service) :
    s.takeOrder ⟨c, g, .service⟩ = giveReport
      (.fillEnd ⟨f.order, f.pulses, f.delivered, .replaced, s.cham.content c, []⟩)
      (s.setCham { s.cham.setLastEnd c .replaced with
        flight := some ⟨⟨c, min g (s.cham.room c), .service⟩, s.cham.content c, 0, 0⟩ }) := by
  rw [State.takeOrder, State.orderCase_replaced (by exact h) hq hf hc]
  dsimp only
  rw [s.endFlight_eq hf, State.handEnd_service _ ho, State.flightOver, hc]
  have hcontent : (s.cham.setLastEnd c .replaced).content c = s.cham.content c := ChamberCtl.content_setLastEnd _ _ _ _
  rw [← hcontent]
  rfl

theorem State.takeOrder_queued (h : min g (s.cham.room c) ≠ 0) (hq : ¬ ∃ q ∈ s.cham.queue, q.chamber = c)
    {f : Flight} (hf : s.cham.flight = some f) (hc : f.order.chamber ≠ c) :
    s.takeOrder ⟨c, g, .service⟩ = s.setCham { s.cham with
      queue := s.cham.queue ++ [⟨c, min g (s.cham.room c), .service⟩] } := by
  rw [State.takeOrder, State.orderCase_queued (by exact h) hq hf hc]
  rfl

theorem State.takeOrder_started (h : min g (s.cham.room c) ≠ 0) (hq : s.cham.queue = []) (hf : s.cham.flight = none) :
    s.takeOrder ⟨c, g, .service⟩ = s.setCham { s.cham with
      flight := some ⟨⟨c, min g (s.cham.room c), .service⟩, s.cham.content c, 0, 0⟩
      supplyTimer := some ⟨s.time, s.spin.par.supplyTimeout * 1000⟩ } := by
  have hclamp : min (min g (s.cham.room c)) (s.cham.room c) = min g (s.cham.room c) := by omega
  let o : Order := ⟨c, min g (s.cham.room c), .service⟩
  let u := s.setCham { s.cham with queue := [o] }
  have hu : u.startNext = u.startFrom [o] := u.startNext_free hf
  have hstarts := u.startFrom_starts (o := o) (rest := []) (by exact fun hz => h (hclamp.symm.trans hz))
  have hcham : { s.cham with queue := [] } = s.cham := by rw [← hq]
  rw [State.takeOrder, State.orderCase_started (by exact h) (by simp [hq]) hf]
  dsimp only
  rw [hq]
  refine hu.trans (hstarts.trans ?_)
  rw [← hcham]
  exact congrArg (fun a => s.setCham { s.cham with
    queue := [], flight := some ⟨⟨c, a, .service⟩, s.cham.content c, 0, 0⟩
    supplyTimer := some ⟨s.time, s.spin.par.supplyTimeout * 1000⟩ }) hclamp

end

/-! ## Manual Fill (R193) -/

/-- The order of a Manual Fill for a chamber and an amount. -/
theorem manualOrder_octets (c : Fin 4) {g : Nat} (h : g < 65536) : manualOrder (u8 c.val :: u16 g) = ⟨c, g, .service⟩ := by
  have hc : fin4 (u8 c.val).toNat = c := by
    rw [u8_toNat_lt (by omega)]
    exact Fin.ofNat_val_eq_self c
  have hg : b16 (u8 c.val :: u16 g) 1 = g := (val16_u16 h []).symm ▸ rfl
  rw [manualOrder, hg]
  exact congrArg (fun d => (⟨d, g, .service⟩ : Order)) hc

theorem exec_manualFill {w : Wait} {tag : Octet} {c : Fin 4} {g : Nat} {p : Params} {s : State}
    (hempty : s.link.inService = none) (hmode : s.serv.mode = true) (h1 : 1 ≤ g) (h400 : g ≤ 400)
    (hp : s.spin.params = some p) (hfault : s.cham.pendingFault = none) {x : State} {case : FillOutcome}
    (hcase : (s.begin w).orderCase ⟨c, g, .service⟩ = case)
    (htake : (s.begin w).takeOrder ⟨c, g, .service⟩ = x) :
    exec (.manualFill w tag (u8 c.val :: u16 g)) s = .next (x.okReply ⟨0x34, tag, u8 c.val :: u16 g⟩
      (case.code :: u16 (min g (400 - s.cham.chambers[c].content)))).arbitrate := by
  subst hcase htake
  have hamount : b16 (u8 c.val :: u16 g) 1 = g := val16_u8 (by omega)
  have hchamber : b8 (u8 c.val :: u16 g) 0 = c.val := u8_toNat_lt (by omega)
  refine exec_request rfl hempty rfl rfl ((State.modeOk_service rfl).trans hmode) ?_
  show State.answerManualFill ((s.begin w).serving ⟨0x34, tag, u8 c.val :: u16 g⟩) (u8 c.val :: u16 g) = _
  rw [State.answerManualFill_taken (by rw [hchamber]; omega) (by rw [hamount]; exact h1)
    (by rw [hamount]; exact h400) (by exact hp) (by exact hfault), manualOrder_octets c (by omega),
    State.serving_takeOrder]
  rfl

/-! ## Stop Fill (R194) -/

section
variable {s : State} {c : Fin 4}

theorem State.stopChamber_flight {f : Flight} (hf : s.cham.flight = some f) (hc : f.order.chamber = c)
    (ho : f.order.origin = .service) :
    s.stopChamber c = ((s.flightOver f .stopped).startNext.lineClosed, 1) := by
  rw [State.stopChamber, if_pos ((ChamberCtl.fillingChamber_iff _ _).2 ⟨f, hf, hc⟩), s.endAndGoOn_service hf ho]

theorem State.stopChamber_queued {o : Order} (h : ∀ f, s.cham.flight = some f → f.order.chamber ≠ c)
    (hfind : s.cham.queue.find? (fun q => q.chamber = c) = some o) (ho : o.origin = .service) :
    s.stopChamber c = (giveReport (.fillEnd ⟨o, 0, 0, .stopped, s.cham.content c, []⟩)
      (s.setCham { s.cham.setLastEnd c .stopped with queue := s.cham.queue.filter (fun q => q.chamber ≠ c) }), 1) := by
  have hc : o.chamber = c := by simpa using List.find?_some hfind
  rw [State.stopChamber, if_neg (ChamberCtl.fillingChamber_other h), hfind]
  dsimp only
  rw [State.endUnstarted_service _ ho (by simp), hc]
  rfl

theorem State.stopChamber_none (h : ∀ o ∈ s.cham.orders, o.chamber ≠ c) : s.stopChamber c = (s, 0) := by
  have hflight (f : Flight) (hf : s.cham.flight = some f) : f.order.chamber ≠ c :=
    h f.order (by rw [ChamberCtl.orders_some hf]; simp)
  have hqueue : s.cham.queue.find? (fun q => q.chamber = c) = none :=
    List.find?_eq_none.2 fun o ho => by simpa using h o (List.mem_append_left _ ho)
  rw [State.stopChamber, if_neg (ChamberCtl.fillingChamber_other hflight), hqueue]

end

theorem State.serving_stopChamber (s : State) (f : Frame) (c : Fin 4) :
    (s.serving f).stopChamber c = ((s.stopChamber c).1.serving f, (s.stopChamber c).2) := by
  unfold State.stopChamber
  rw [State.serving_endAndGoOn, State.serving_cham]
  by_cases h : s.cham.fillingChamber c = true
  · rw [if_pos h, if_pos h]
  rw [if_neg h, if_neg h]
  cases s.cham.queue.find? (fun o => o.chamber = c) with
  | none => rfl
  | some o =>
    dsimp only
    rw [State.serving_setCham, State.serving_endUnstarted]

theorem exec_stopFill {w : Wait} {tag : Octet} {n : Octet} {s : State} (hempty : s.link.inService = none)
    (hmode : s.serv.mode = true) {x : State} {fields : List Octet}
    (h : ((s.begin w).serving ⟨0x35, tag, [n]⟩).answerStopFill [n] = ⟨x.serving ⟨0x35, tag, [n]⟩, .ok, fields⟩) :
    exec (.stopFill w tag [n]) s = .next (x.okReply ⟨0x35, tag, [n]⟩ fields).arbitrate :=
  exec_request (c := .stopFill w tag [n]) (k := .stopFill) rfl hempty rfl rfl
    ((State.modeOk_service rfl).trans hmode) h

/-- Stop Fill for one chamber. -/
theorem exec_stopFill_chamber {w : Wait} {tag : Octet} {c : Fin 4} {s : State} (hempty : s.link.inService = none)
    (hmode : s.serv.mode = true) {x : State} {count : Nat} (h : (s.begin w).stopChamber c = (x, count)) :
    exec (.stopFill w tag [u8 c.val]) s = .next (x.okReply ⟨0x35, tag, [u8 c.val]⟩ [u8 count]).arbitrate := by
  have hc : b8 [u8 c.val] 0 = c.val := u8_toNat_lt (by omega)
  refine exec_stopFill hempty hmode ?_
  rw [State.answerStopFill, hc, if_neg (by unfold allChambers; omega), if_neg (by unfold allChambers; omega)]
  have hfin : fin4 c.val = c := Fin.ofNat_val_eq_self c
  rw [hfin, State.serving_stopChamber, h]
  rfl

/-- Settles O35. -/
theorem serviceFills : Obligations.ServiceFills := by
  unfold Obligations.ServiceFills
  refine ⟨fun w tag c g p s hempty hmode h1 h400 hp hfault hservice => ?_,
    fun w tag c g s hempty hmode h1 h400 hp => ?_, fun w tag c s hempty hmode hservice => ?_⟩
  · intro b body content a o queued done
    have hroom : min g ((s.begin w).cham.room c) = a := rfl
    have fills {x : State} (case : FillOutcome) (hcase : b.orderCase ⟨c, g, .service⟩ = case)
        (htake : b.takeOrder ⟨c, g, .service⟩ = x) : exec (.manualFill w tag body) s = done x case.code :=
      exec_manualFill hempty hmode h1 h400 hp hfault hcase htake
    refine ⟨fun ha => ?_, fun ha hq => ?_, fun f ha hq hf hc => ?_, fun f ha hq hf hc => ?_, fun ha hq hf => ?_⟩
    · exact fills .full (State.orderCase_full ha) (State.takeOrder_full (s := b) ha hservice)
    · exact fills .merged (State.orderCase_merged ha hq) (State.takeOrder_merged (s := b) ha hq)
    · exact fills .replaced (State.orderCase_replaced ha hq hf hc)
        (State.takeOrder_replaced (s := b) ha hq hf hc (ChamberCtl.service_flight hservice hf))
    · exact fills .queued (State.orderCase_queued ha hq hf hc) (State.takeOrder_queued (s := b) ha hq hf hc)
    · have hpar : s.spin.par = p := congrArg (fun q : Option Params => q.getD .none) hp
      rw [← hpar]
      exact fills .started (State.orderCase_started ha (by simp [b, hq]) hf)
        (State.takeOrder_started (s := b) ha hq hf)
  · have hamount : b16 (u8 c.val :: u16 g) 1 = g := val16_u8 (by omega)
    have hchamber : b8 (u8 c.val :: u16 g) 0 = c.val := u8_toNat_lt (by omega)
    refine exec_request rfl hempty rfl rfl ((State.modeOk_service rfl).trans hmode) ?_
    show State.answerManualFill ((s.begin w).serving ⟨0x34, tag, u8 c.val :: u16 g⟩) (u8 c.val :: u16 g) = _
    rw [State.answerManualFill_notReady (by rw [hchamber]; omega) (by rw [hamount]; exact h1)
      (by rw [hamount]; exact h400) (by exact hp)]
    rfl
  · intro b content done
    refine ⟨?_, fun f hf hc => ?_, fun o hfind hother => ?_, fun hnone => ?_⟩
    · refine exec_stopFill hempty hmode ?_
      rw [State.answerStopFill, if_neg (by decide), if_pos (by decide), State.serving_endAll]
      rfl
    · have hstop : b.stopChamber c = ((b.flightOver f .stopped).startNext.lineClosed, 1) :=
        State.stopChamber_flight (s := b) hf hc (ChamberCtl.service_flight hservice hf)
      have hfree : (b.flightOver f .stopped).cham.flight = none := rfl
      subst hc
      intro report
      refine ⟨fun hq => ?_, ?_, fun hq => ?_⟩
      · rw [State.goOn_last _ hfree (by exact hq)] at hstop
        exact exec_stopFill_chamber hempty hmode hstop
      · intro o rest hq hoc room ha
        have hcontent : (b.flightOver f .stopped).cham.content o.chamber = s.cham.chambers[o.chamber].content :=
          ChamberCtl.content_setLastEnd _ _ _ _
        have hroom : (b.flightOver f .stopped).cham.room o.chamber = room := by rw [ChamberCtl.room, hcontent]; rfl
        rw [State.goOn_starts _ hfree (o := o) (rest := rest) (by exact hq) (by rw [hroom]; exact ha), hroom,
          hcontent] at hstop
        exact exec_stopFill_chamber hempty hmode hstop
      · exact exec_stopFill_chamber hempty hmode hstop
    · have ho : o.origin = .service := ChamberCtl.service_queue hservice o (List.mem_of_find?_eq_some hfind)
      exact exec_stopFill_chamber hempty hmode (State.stopChamber_queued (s := b) hother hfind ho)
    · exact exec_stopFill_chamber hempty hmode (State.stopChamber_none (s := b) hnone)

end Sys2Proof.Machine
end

section
/-! Deposits (R86, R191, R192; O36). -/

namespace Sys2Proof.Machine

/-! ## A slot's content and marks (R62, R86) -/

/-- R62: the wrong check differs from the computed one. -/
theorem Slot.wrong_check (t : Fin 4) (k : Pair) : (Slot.wrong t k).check ≠ Config.checkValue t k := by
  intro h
  have hsum : (Config.checkValue t k + BitVec.ofNat 16 (1 + Config.wrongCheckOffset t k % 65535)).toNat =
    (Config.checkValue t k).toNat := congrArg BitVec.toNat h
  rw [BitVec.toNat_add, BitVec.toNat_ofNat] at hsum
  omega

/-- The slot of a Deposit, by its wrong-check flag. -/
def depositSlotOf (t : Fin 4) (k : Pair) (wrong : Bool) : Slot := if wrong then Slot.wrong t k else Slot.sound t k

theorem depositSlotOf_eq (t : Fin 4) (k : Pair) (wrong : Bool) :
    depositSlotOf t k wrong = ⟨t, k, (depositSlotOf t k wrong).check⟩ := by
  cases wrong <;> rfl

theorem depositSlotOf_check (t : Fin 4) (k : Pair) (wrong : Bool) :
    (depositSlotOf t k wrong).check = Config.checkValue t k ↔ wrong = false := by
  cases wrong with
  | false => simp [depositSlotOf, Slot.sound]
  | true => simpa [depositSlotOf] using Slot.wrong_check t k

/-- R86: the marks of set A after a Deposit. -/
def Table.depositedA (t : Table) (i : Fin 12) (choice : Fin 3) : Vector Bool 12 :=
  if choice = 2 then (if t.active = .b then t.marksA.set i true else t.marksA)
  else if t.active = .a then t.marksA.set i (choice = 1) else t.marksA

/-- R86: the marks of set B after a Deposit. -/
def Table.depositedB (t : Table) (i : Fin 12) (choice : Fin 3) : Vector Bool 12 :=
  if choice = 2 then (if t.active = .a then t.marksB.set i true else t.marksB)
  else if t.active = .b then t.marksB.set i (choice = 1) else t.marksB

theorem Table.mark_slots_a (t : Table) (i : Fin 12) (x : Slot) (b : Bool) :
    Table.mark { t with slots := tset t.slots i.val x } .a i.val b =
      { t with slots := t.slots.set i x, marksA := t.marksA.set i b } := by
  rw [tset_fin, Table.mark_a]

theorem Table.mark_slots_b (t : Table) (i : Fin 12) (x : Slot) (b : Bool) :
    Table.mark { t with slots := tset t.slots i.val x } .b i.val b =
      { t with slots := t.slots.set i x, marksB := t.marksB.set i b } := by
  rw [tset_fin, Table.mark_b]

theorem Table.deposit_eq (t : Table) (i : Fin 12) (x : Slot) (choice : Fin 3) :
    t.deposit i.val x (validChoice choice.val) = { t with
      slots := t.slots.set i x, marksA := t.depositedA i choice, marksB := t.depositedB i choice } := by
  obtain ⟨slots, marksA, marksB, active, flush, baseline, loaded, history⟩ := t
  cases active with
  | a =>
    match choice with
    | 0 => exact Table.mark_slots_a _ i x false
    | 1 => exact Table.mark_slots_a _ i x true
    | 2 => exact Table.mark_slots_b _ i x true
  | b =>
    match choice with
    | 0 => exact Table.mark_slots_b _ i x false
    | 1 => exact Table.mark_slots_b _ i x true
    | 2 => exact Table.mark_slots_a _ i x true

/-! ## A Deposit's octets (11.4) -/

section
variable (i : Fin 12) (t : Fin 4) (k : Pair) (choice : Fin 3) (wrong : Bool)

/-- The octets of a slot Deposit, its target octet among them. -/
def depositSlotBody : List Octet := 2 :: depositSlotFields i.val t.val k choice.val wrong

theorem depositSlotBody_eq : depositSlotBody i t k choice wrong =
    [2, u8 i.val, u8 t.val] ++ pair16 k ++ ([u8 choice.val, boolOctet wrong] ++ u16 0) := by
  rw [depositSlotBody, depositSlotFields]
  simp

theorem depositSlotBody_slot : b8 (depositSlotBody i t k choice wrong) 1 = i.val := u8_toNat_lt (by omega)

theorem depositSlotBody_tag : b8 (depositSlotBody i t k choice wrong) 2 = t.val := u8_toNat_lt (by omega)

theorem depositSlotBody_choice : b8 (depositSlotBody i t k choice wrong) 7 = choice.val := u8_toNat_lt (by omega)

theorem depositSlotBody_flags : b8 (depositSlotBody i t k choice wrong) 8 = if wrong then 1 else 0 := by
  show (boolOctet wrong).toNat = _
  cases wrong <;> rfl

theorem depositSlotBody_wrong : flagBit (depositSlotBody i t k choice wrong) 8 0 = wrong := by
  rw [flagBit, depositSlotBody_flags]
  cases wrong <;> rfl

variable {k} in
theorem depositSlotBody_pair (h : PairFits k) : bPair (depositSlotBody i t k choice wrong) 3 = k := by
  rw [depositSlotBody_eq]
  exact bPair_pair16 h rfl

variable {k choice}

theorem depositSlotBody_inRange (h : PairFits k) (hmag : choice ≠ 0 → 16 ≤ mag k) :
    depositSlotInRange (depositSlotBody i t k choice wrong) = true := by
  have hzero : b16 (depositSlotBody i t k choice wrong) 9 = 0 := val16_u8 (n := 0) (by omega)
  have hchoice : choice.val = 0 ∨ 16 ≤ mag k := by
    by_cases h0 : choice = 0
    · exact .inl (congrArg Fin.val h0)
    · exact .inr (hmag h0)
  have hflag : (if wrong = true then 1 else 0) ≤ 1 := by split <;> omega
  rw [depositSlotInRange, depositSlotBody_slot, depositSlotBody_tag, depositSlotBody_choice, depositSlotBody_flags,
    depositSlotBody_pair i t choice wrong h, hzero]
  simp only [Bool.and_eq_true, Bool.or_eq_true, decide_eq_true_eq]
  exact ⟨⟨⟨⟨⟨by omega, by omega⟩, by omega⟩, hflag⟩, trivial⟩, hchoice⟩

theorem depositedSlot_body (h : PairFits k) :
    depositedSlot (depositSlotBody i t k choice wrong) = depositSlotOf t k wrong := by
  have htag : fin4 t.val = t := Fin.ofNat_val_eq_self t
  rw [depositedSlot, depositSlotBody_wrong, depositSlotBody_tag, depositSlotBody_pair i t choice wrong h, htag,
    depositSlotOf]

end

/-- The octets of a chamber Deposit, its target octet among them. -/
def depositChamberBody (c : Fin 4) (g : Nat) : List Octet := 3 :: depositChamberFields c g

theorem depositChamberBody_chamber (c : Fin 4) (g : Nat) : b8 (depositChamberBody c g) 1 = c.val :=
  u8_toNat_lt (by omega)

theorem depositChamberBody_content (c : Fin 4) {g : Nat} (h : g ≤ 65535) : b16 (depositChamberBody c g) 9 = g :=
  val16_u8 (by omega)

theorem depositChamberBody_inRange (c : Fin 4) (g : Nat) : depositChamberInRange (depositChamberBody c g) = true := by
  have hzero (n : Nat) (h : 2 ≤ n) (h9 : n < 9) : b8 (depositChamberBody c g) n = 0 := by
    have hoctets : depositChamberBody c g = [3, u8 c.val, 0, 0, 0, 0, 0, 0, 0] ++ u16 g := rfl
    rw [b8, hoctets]
    obtain rfl | rfl | rfl | rfl | rfl | rfl | rfl : n = 2 ∨ n = 3 ∨ n = 4 ∨ n = 5 ∨ n = 6 ∨ n = 7 ∨ n = 8 := by omega
    all_goals rfl
  have hzero16 (n : Nat) (h : 2 ≤ n) (h8 : n < 8) : b16 (depositChamberBody c g) n = 0 := by
    show b8 _ n * 256 + b8 _ (n + 1) = 0
    rw [hzero n h (by omega), hzero (n + 1) (by omega) (by omega)]
  rw [depositChamberInRange, depositChamberBody_chamber, decide_eq_true (Nat.lt_succ_iff.1 c.isLt), hzero16 3 (by omega) (by omega),
    hzero16 5 (by omega) (by omega), hzero 2 (by omega) (by omega), hzero 7 (by omega) (by omega),
    hzero 8 (by omega) (by omega)]
  rfl

/-- R191: the SLOT item of the reply to a Deposit. -/
theorem State.slotItem_deposited (s : State) (i : Fin 12) (t : Fin 4) (k : Pair) (choice : Fin 3) (wrong : Bool) :
    (s.setTable (s.table.deposit i.val (depositSlotOf t k wrong) (validChoice choice.val))).slotItem i.val =
      [u8 i.val, u8 t.val] ++ pair16 k ++ [flagOctet [(s.table.depositedA i choice)[i], (s.table.depositedB i choice)[i],
        s.table.active = .b, !wrong]] := by
  have hslot : (s.setTable { s.table with
      slots := s.table.slots.set i (depositSlotOf t k wrong), marksA := s.table.depositedA i choice
      marksB := s.table.depositedB i choice }).table.slots[i] = ⟨t, k, (depositSlotOf t k wrong).check⟩ :=
    (Vector.getElem_set_self _).trans (depositSlotOf_eq t k wrong)
  have hcheck : decide ((depositSlotOf t k wrong).check = Config.checkValue t k) = !wrong := by
    rw [Bool.eq_iff_iff, decide_eq_true_iff, depositSlotOf_check, Bool.not_eq_true']
  rw [Table.deposit_eq, State.slotItem_eq, hslot, ← hcheck]
  rfl

/-! ## What a Deposit answers (R191, R192) -/

theorem State.answerDepositSlot_taken {s : State} {i : Fin 12} {t : Fin 4} {k : Pair} {choice : Fin 3} {wrong : Bool}
    (h : PairFits k) (hmag : choice ≠ 0 → 16 ≤ mag k) (hflush : choice = 2 → s.table.flush = .quiet) :
    s.answerDepositSlot (depositSlotBody i t k choice wrong) =
      (s.setTable (s.table.deposit i.val (depositSlotOf t k wrong) (validChoice choice.val))).accept
        ([2, u8 i.val] ++ (s.setTable (s.table.deposit i.val (depositSlotOf t k wrong)
          (validChoice choice.val))).slotItem i.val) := by
  have hquiet : ¬ (validChoice choice.val = .standby ∧ s.table.flush.isClearing = true) := by
    rintro ⟨hstandby, hclearing⟩
    have htwo : choice = 2 := by
      revert hstandby
      clear hmag hflush
      revert choice
      decide
    rw [hflush htwo] at hclearing
    exact nomatch hclearing
  rw [State.answerDepositSlot, depositSlotBody_inRange i t wrong h hmag, depositSlotBody_choice,
    if_neg (by decide), if_neg hquiet, depositSlotBody_slot, depositedSlot_body i t wrong h]
  rfl

theorem State.answerDepositChamber_taken (s : State) (c : Fin 4) {g : Nat} (h : g ≤ 65535) :
    s.answerDepositChamber (depositChamberBody c g) =
      (s.depositContent c g).accept ([3, u8 c.val] ++ (s.depositContent c g).chamberItem c) := by
  have hfin : fin4 c.val = c := Fin.ofNat_val_eq_self c
  rw [State.answerDepositChamber, depositChamberBody_inRange, if_neg (by decide), depositChamberBody_chamber,
    depositChamberBody_content c h, hfin]
  rfl

/-! ## A chamber's Deposit and the arbiter (R146, R147, R192) -/

section
variable {s : State} {c : Fin 4} {g : Nat}

theorem ChamberCtl.plannerInFlight_some {t : ChamberCtl} {f : Flight} (hf : t.flight = some f) :
    t.plannerInFlight = decide (f.order.origin = .planner) := by
  rw [ChamberCtl.plannerInFlight, hf]

/-- R145, R148: a service order ends and the arbiter goes on; it is no fill end. -/
theorem State.finishOrder_service {f : Flight} (hf : s.cham.flight = some f) (ho : f.order.origin = .service)
    (r : EndReason) : s.finishOrder r = (s.flightOver f r).startNext.lineClosed := by
  rw [State.finishOrder, ChamberCtl.plannerInFlight_some hf, ho, s.endAndGoOn_service hf ho]
  rfl

theorem State.depositContent_held (h : (∀ f, s.cham.flight = some f → f.order.chamber ≠ c) ∨ g < 400) :
    s.depositContent c g = s.setCham (s.cham.setContent c (min g 400)) := by
  rw [State.depositContent]
  refine if_neg ?_
  rintro ⟨hfilling, hcontent⟩
  rw [State.setCham_cham, ChamberCtl.content_setContent_self] at hcontent
  obtain ⟨f, hf, hc⟩ := (ChamberCtl.fillingChamber_iff _ _).1 hfilling
  obtain hother | hroom := h
  · exact hother f hf hc
  · unfold capacity at hcontent
    omega

/-- R146: a service order whose chamber a Deposit fills ends CAPACITY. -/
theorem State.depositContent_ends {f : Flight} (hf : s.cham.flight = some f) (hc : f.order.chamber = c)
    (ho : f.order.origin = .service) (hg : 400 ≤ g) : s.depositContent c g =
      ((s.setCham (s.cham.setContent c (min g 400))).flightOver f .capacity).startNext.lineClosed := by
  have hfull : (s.setCham (s.cham.setContent c (min g 400))).cham.fillingChamber c = true
      ∧ (s.setCham (s.cham.setContent c (min g 400))).cham.content c = capacity :=
    ⟨(ChamberCtl.fillingChamber_iff _ _).2 ⟨f, hf, hc⟩, (ChamberCtl.content_setContent_self _ _ _).trans (by
      unfold capacity
      omega)⟩
  rw [State.depositContent]
  exact (if_pos hfull).trans (State.finishOrder_service (s := s.setCham (s.cham.setContent c (min g 400))) hf ho _)

theorem State.depositContent_full {f : Flight} (hc : f.order.chamber = c)
    (hg : 400 ≤ g) : (s.setCham (s.cham.setContent c (min g 400))).flightOver f .capacity =
      giveReport (.fillEnd ⟨f.order, f.pulses, f.delivered, .capacity, 400, []⟩)
        (s.setCham { (s.cham.setContent c (min g 400)).setLastEnd c .capacity with
          flight := none, supplyTimer := none }) := by
  have hcontent : (s.cham.setContent c (min g 400)).content c = 400 := by
    rw [ChamberCtl.content_setContent_self]
    omega
  rw [State.flightOver, hc, State.setCham_cham, hcontent]
  rfl

end

theorem exec_depositChamber {w : Wait} {tag : Octet} {c : Fin 4} {g : Nat} {s : State}
    (hempty : s.link.inService = none) (hmode : s.serv.mode = true) (hg : g ≤ 65535) {x : State}
    (h : ((s.begin w).serving ⟨0x33, tag, depositChamberBody c g⟩).depositContent c g =
      x.serving ⟨0x33, tag, depositChamberBody c g⟩) :
    exec (.depositChamber w tag (depositChamberFields c g)) s =
      .next (x.okReply ⟨0x33, tag, depositChamberBody c g⟩ ([3, u8 c.val] ++ x.chamberItem c)).arbitrate := by
  refine exec_request (c := .depositChamber w tag (depositChamberFields c g)) (k := .deposit) rfl hempty rfl rfl
    ((State.modeOk_service rfl).trans hmode) ?_
  show State.answerDeposit _ _ = _
  rw [State.answerDeposit_chamber]
  show State.answerDepositChamber ((s.begin w).serving ⟨0x33, tag, depositChamberBody c g⟩) (depositChamberBody c g) = _
  rw [State.answerDepositChamber_taken _ c hg, h]
  rfl

/-- Settles O36. -/
theorem depositRequests : Obligations.DepositRequests := by
  unfold Obligations.DepositRequests
  refine ⟨fun w tag i t k choice wrong s hempty hmode hre hre' him him' hmag hflush => ?_,
    fun w tag c g s hempty hmode hg => ?_⟩
  · intro b fields
    have hk : PairFits k := ⟨hre, hre', him, him'⟩
    refine ⟨(depositSlotOf t k wrong).check, s.table.depositedA i choice, s.table.depositedB i choice,
      depositSlotOf_check t k wrong, rfl, rfl, ?_⟩
    refine exec_request (c := .depositSlot w tag fields) (k := .deposit) rfl hempty rfl rfl
      ((State.modeOk_service rfl).trans hmode) ?_
    show State.answerDeposit _ _ = _
    rw [State.answerDeposit_slot]
    show State.answerDepositSlot ((s.begin w).serving ⟨0x33, tag, 2 :: fields⟩) (depositSlotBody i t k choice wrong) = _
    rw [State.answerDepositSlot_taken (s := (s.begin w).serving ⟨0x33, tag, 2 :: fields⟩) hk hmag hflush,
      State.slotItem_deposited, State.serving_table, show (s.begin w).table = s.table from rfl, Table.deposit_eq,
      ← depositSlotOf_eq]
    rfl
  · intro b fields x
    refine ⟨fun h => ?_, fun f hf hc ho hq hfull => ?_, fun f hf hc ho hq hfull => ?_⟩
    · exact exec_depositChamber hempty hmode hg
        (State.depositContent_held (s := (s.begin w).serving ⟨0x33, tag, 3 :: fields⟩) h)
    · have hends := State.depositContent_ends (s := (s.begin w).serving ⟨0x33, tag, 3 :: fields⟩) hf hc ho hfull
      rw [State.depositContent_full hc hfull, State.goOn_last _ rfl (by exact hq), State.serving_setCham,
        State.serving_report] at hends
      exact exec_depositChamber hempty hmode hg hends
    · have hends := State.depositContent_ends (s := (s.begin w).serving ⟨0x33, tag, 3 :: fields⟩) hf hc ho hfull
      rw [State.depositContent_full hc hfull, State.serving_setCham, State.serving_report, State.serving_startNext,
        State.serving_lineClosed] at hends
      exact exec_depositChamber hempty hmode hg hends

end Sys2Proof.Machine
end

section
/-! Flow pulses, the fill end, leaks, the bleed and the supply timer (R123, R142, R145 to R155; O37 to O39). -/

namespace Sys2Proof.Machine

/-! ## The fill end (R123, R148) -/

section
variable {s : State}

theorem State.fillEnd_balancing (h : s.spin.state = .balancing) : s.fillEnd =
    giveReport (.state ⟨.settling, .balancing, .filled, s.spin.dwell, s.spin.dest, s.spin.dir, s.spin.target,
      s.spin.ceiling, s.spin.demand⟩) (s.setSpin { s.spin with state := .settling, settle := 0 }) := by
  rw [State.fillEnd, if_pos h, ← h]
  rfl

theorem State.fillEndIfDone_service : s.fillEndIfDone false = s := rfl

theorem State.fillEndIfDone_busy (h : s.cham.flight.isSome = true) (planner : Bool) : s.fillEndIfDone planner = s := by
  obtain ⟨f, hf⟩ := Option.isSome_iff_exists.1 h
  rw [State.fillEndIfDone, hf]
  exact if_neg (by simp)

theorem State.fillEndIfDone_last (hq : s.cham.queue = []) (hf : s.cham.flight = none) :
    s.fillEndIfDone true = s.fillEnd := by
  rw [State.fillEndIfDone, hq, hf]
  rfl

end

/-! ## The next order (R145) -/

section
variable (s : State)

/-- Where no order started, none is left. -/
theorem State.startFrom_queue_of_free (os : List Order) (h : (s.startFrom os).cham.flight = none) :
    (s.startFrom os).cham.queue = [] := by
  induction os generalizing s with
  | nil => rfl
  | cons o rest ih =>
    by_cases ha : min o.amount (s.cham.room o.chamber) = 0
    · rw [s.startFrom_skips ha] at h ⊢
      exact ih _ h
    · rw [s.startFrom_starts ha] at h
      exact nomatch h

theorem State.startNext_queue_of_free (h : s.startNext.cham.flight = none) (hf : s.cham.flight = none) :
    s.startNext.cham.queue = [] := by
  rw [s.startNext_free hf] at h ⊢
  exact s.startFrom_queue_of_free _ h

end

/-! ## A pulse counted for the order in flight (R146) -/

/-- R146: how the order in flight stands after a pulse. -/
theorem ChamberCtl.fillDone_meter (t : ChamberCtl) (now : Stamp) (p : Params) (f : Flight) :
    (t.meter now p f).fillDone =
      if f.order.amount ≤ (f.pulses + 1) * 10 / p.flowCal then some .complete
      else if min 400 (t.content f.order.chamber + ((f.pulses + 1) * 10 / p.flowCal - f.delivered)) = 400 then
        some .capacity
      else none := by
  have hcontent (v : Nat) : (t.setContent f.order.chamber v).content f.order.chamber = v :=
    ChamberCtl.content_setContent_self _ _ _
  unfold ChamberCtl.meter ChamberCtl.fillDone
  show (if f.order.amount ≤ _ then _ else if capacity ≤ (t.setContent _ _).content _ then _ else _) = _
  rw [hcontent]
  have hfull (x : Nat) : capacity ≤ min capacity x ↔ min 400 x = 400 := by
    unfold capacity
    omega
  simp only [hfull]

/-- R145, R148: the order in flight ends; the arbiter goes on, and a plan's last end is the fill end. -/
theorem State.finishOrder_eq {s : State} {f : Flight} (hf : s.cham.flight = some f) (r : EndReason) :
    s.finishOrder r = (((s.flightOver f r).handEnd f.order f.delivered r).startNext.lineClosed).fillEndIfDone
      (decide (f.order.origin = .planner)) := by
  rw [State.finishOrder, ChamberCtl.plannerInFlight_some hf, s.endAndGoOn_eq hf]

/-- R40, R148: what an order that took water brings the pre-fill record. -/
theorem Estimator.orderEnd_credits (e : Estimator) (c : Fin 4) (d : Nat) {r : EndReason}
    (h : r = .complete ∨ r = .capacity) : e.orderEnd c d r =
      { e with preFill := e.preFill.map (fun q => { q with delivered := q.delivered.set c (q.delivered[c] + d) }) } := by
  obtain rfl | rfl := h <;> rfl

section
variable {s : State} {f : Flight} (hf : s.cham.flight = some f)
include hf

theorem State.flowPulse_meters (hdone : (s.cham.meter s.time s.spin.par f).fillDone = none) :
    s.flowPulse = s.setCham (s.cham.meter s.time s.spin.par f) := by
  rw [State.flowPulse, hf]
  dsimp only
  rw [State.meterPulse]
  dsimp only [State.setCham_cham]
  rw [hdone]

theorem State.flowPulse_ends {r : EndReason} (hdone : (s.cham.meter s.time s.spin.par f).fillDone = some r) :
    s.flowPulse = (s.setCham (s.cham.meter s.time s.spin.par f)).finishOrder r := by
  rw [State.flowPulse, hf]
  dsimp only
  rw [State.meterPulse]
  dsimp only [State.setCham_cham]
  rw [hdone]

end

theorem exec_flowPulse (w : Wait) (s : State) : exec (.flowPulse w) s = .next (s.begin w).flowPulse.arbitrate :=
  exec_eq _ _

/-- Settles O37. -/
theorem flowPulseFillsTheChamber : Obligations.FlowPulseFillsTheChamber := by
  unfold Obligations.FlowPulseFillsTheChamber
  refine ⟨fun w f s hf => ?_, fun s hf => ⟨fun hq => s.startNext_empty hq, fun o rest hq => ?_⟩⟩
  · intro b c d v metered r ends report credited
    let m := b.setCham (s.cham.meter b.time s.spin.par f)
    let f' : Flight := { f with pulses := f.pulses + 1, delivered := d }
    let finished := (giveReport report (b.setCham { metered.setLastEnd c r with
      flight := none, supplyTimer := none })).setEst (if f.order.origin = .planner then credited else s.est)
    have hdone : (s.cham.meter b.time s.spin.par f).fillDone = if f.order.amount ≤ d then some .complete
        else if v = 400 then some .capacity else none := ChamberCtl.fillDone_meter _ _ _ _
    have hover (hends : ends) : (m.flightOver f' r).handEnd f.order d r = finished := by
      have hcontent : metered.content c = v := ChamberCtl.content_setContent_self _ _ _
      have hreason : r = .complete ∨ r = .capacity := by
        by_cases h : f.order.amount ≤ d <;> simp [r, h]
      rw [State.handEnd_eq, Estimator.orderEnd_credits _ _ _ hreason, State.flightOver]
      show State.setEst (giveReport (.fillEnd ⟨f.order, f.pulses + 1, d, r, metered.content c, []⟩) _) _ = _
      rw [hcontent]
      rfl
    have hends (h : ends) : exec (.flowPulse w) s = .next (finished.startNext.lineClosed.fillEndIfDone
        (decide (f.order.origin = .planner))).arbitrate := by
      have hr : (s.cham.meter b.time s.spin.par f).fillDone = some r := by
        rw [hdone]
        by_cases hd : f.order.amount ≤ d
        · simp [r, hd]
        · simp [r, hd, h.resolve_left hd]
      rw [exec_flowPulse, State.flowPulse_ends (s := s.begin w) hf hr, State.finishOrder_eq (f := f') rfl, ← hover h]
      rfl
    have hservice (h : ends) (ho : f.order.origin = .service) :
        exec (.flowPulse w) s = .next finished.startNext.lineClosed.arbitrate := by
      rw [hends h, ho]
      rfl
    have hplanner (h : ends) (ho : f.order.origin = .planner) :
        exec (.flowPulse w) s = .next (finished.startNext.lineClosed.fillEndIfDone true).arbitrate := by
      rw [hends h, ho]
      rfl
    have hplain (ho : f.order.origin = .service) : finished = giveReport report (b.setCham { metered.setLastEnd c r with
        flight := none, supplyTimer := none }) := by
      rw [show finished = State.setEst _ _ from rfl, if_neg (by rw [ho]; decide)]
      rfl
    have hcredited (ho : f.order.origin = .planner) : finished = (giveReport report (b.setCham { metered.setLastEnd c r with
        flight := none, supplyTimer := none })).setEst credited := by
      rw [show finished = State.setEst _ _ from rfl, if_pos ho]
    have hfree : finished.cham.flight = none := rfl
    refine ⟨fun h => ?_, fun h hq => ?_, ?_, fun h hq => ?_⟩
    · have hnone : (s.cham.meter b.time s.spin.par f).fillDone = none := by
        rw [hdone, if_neg (h ∘ .inl), if_neg (h ∘ .inr)]
      rw [exec_flowPulse, State.flowPulse_meters (s := s.begin w) hf hnone]
      rfl
    · intro closed
      have hclosed : finished.startNext.lineClosed = finished.setCham { finished.cham with leak := 0 } :=
        State.goOn_last _ hfree hq
      refine ⟨fun ho => ?_, fun ho hstate => ?_⟩
      · rw [hservice h ho, hclosed, hplain ho]
        rfl
      · rw [hplanner h ho, hclosed, State.fillEndIfDone_last (by exact hq) rfl, State.fillEnd_balancing (by exact hstate),
          hcredited ho]
        rfl
    · intro o rest h hq hoc content ha next
      have hcontent : finished.cham.content o.chamber = content :=
        (ChamberCtl.content_setLastEnd _ _ _ _).trans (ChamberCtl.content_setContent_ne _ hoc.symm _)
      have hroom : finished.cham.room o.chamber = 400 - content := by rw [ChamberCtl.room, hcontent]; rfl
      have hstarts := finished.goOn_starts hfree (o := o) (rest := rest) hq (by rw [hroom]; exact ha)
      rw [hroom, hcontent] at hstarts
      refine ⟨fun ho => ?_, fun ho => ?_⟩
      · rw [hservice h ho, hstarts, hplain ho]
        rfl
      · rw [hplanner h ho, hstarts, State.fillEndIfDone_busy rfl, hcredited ho]
        rfl
    · intro z closed
      have hz : finished.startNext = z := rfl
      refine ⟨fun hbusy => ?_, fun hnone ho => ?_, fun hnone ho hstate => ?_⟩
      · rw [hends h, hz, z.lineClosed_busy hbusy, State.fillEndIfDone_busy hbusy]
      · rw [hservice h ho, hz, z.lineClosed_free hnone]
      · have hspin : z.spin = s.spin := finished.startNext_frame.spin
        have hempty : closed.cham.queue = [] := finished.startNext_queue_of_free hnone hfree
        rw [hplanner h ho, hz, z.lineClosed_free hnone, State.fillEndIfDone_last hempty hnone,
          State.fillEnd_balancing (by rw [State.setCham_spin, hspin]; exact hstate), State.setCham_spin, hspin]
  · intro content a ended
    have hcons := s.startNext_cons o rest hq hf
    exact ⟨fun ha => hcons.trans (if_neg ha), fun ha => hcons.trans (if_pos ha)⟩

/-! ## Leaks and the bleed (R142, R153) -/

theorem ChamberCtl.setContent_lastEnd (t : ChamberCtl) (c d : Fin 4) (v : Nat) :
    (t.setContent c v).chambers[d].lastEnd = t.chambers[d].lastEnd := by
  unfold ChamberCtl.setContent
  by_cases h : c = d
  · subst h
    simp
  · have hne : c.val ≠ d.val := fun e => h (Fin.ext e)
    simp [hne]

theorem ChamberCtl.bleedAll_lastEnd (t : ChamberCtl) (g : Nat) (c : Fin 4) :
    (t.bleedAll g).chambers[c].lastEnd = t.chambers[c].lastEnd := by
  rw [ChamberCtl.bleedAll, ChamberCtl.setContent_lastEnd, ChamberCtl.setContent_lastEnd, ChamberCtl.setContent_lastEnd,
    ChamberCtl.setContent_lastEnd]

/-- R142: which chamber bleeds. -/
theorem ChamberCtl.bled_eq (t : ChamberCtl) (g : Nat) (c : Fin 4) : t.bled g c =
    if ∃ f, t.flight = some f ∧ f.order.chamber = c ∧ f.order.origin = .planner then t.content c
    else t.content c - g := by
  have hiff : (t.fillingChamber c && t.plannerInFlight) = true ↔
      ∃ f, t.flight = some f ∧ f.order.chamber = c ∧ f.order.origin = .planner := by
    rw [Bool.and_eq_true, ChamberCtl.fillingChamber_iff]
    refine ⟨fun ⟨⟨f, hf, hc⟩, hp⟩ => ⟨f, hf, hc, ?_⟩, fun ⟨f, hf, hc, ho⟩ => ⟨⟨f, hf, hc⟩, ?_⟩⟩
    · rw [ChamberCtl.plannerInFlight_some hf] at hp
      exact of_decide_eq_true hp
    · rw [ChamberCtl.plannerInFlight_some hf]
      exact decide_eq_true ho
  rw [ChamberCtl.bled]
  exact ite_congr (propext hiff) (fun _ => rfl) (fun _ => rfl)

theorem exec_bleedExpiry (w : Wait) (s : State) : exec (.bleedExpiry w) s =
    .next ((s.begin w).whenDue (some s.cham.bleedTimer) State.bleed).arbitrate := exec_eq _ _

theorem exec_supplyTimeout (w : Wait) (s : State) : exec (.supplyTimeout w) s =
    .next ((s.begin w).whenDue s.cham.supplyTimer State.supplyTimeout).arbitrate := exec_eq _ _

/-- Settles O38. -/
theorem leakPulsesAndBleed : Obligations.LeakPulsesAndBleed := by
  unfold Obligations.LeakPulsesAndBleed
  refine ⟨fun w s hf => ?_, fun w s => ?_⟩
  · intro b
    have hleak : exec (.flowPulse w) s = .next b.leakPulse.arbitrate := by
      rw [exec_flowPulse, State.flowPulse, show (s.begin w).cham.flight = none from hf]
    refine ⟨fun h => ?_, fun h => ?_⟩
    · have hother : ¬ b.cham.leak + 1 = leakLimit := fun he => h (Nat.succ.inj he)
      rw [hleak, State.leakPulse, if_neg hother]
      rfl
    · have hlimit : b.cham.leak + 1 = leakLimit := congrArg (· + 1) h
      have hn : countUp 255 b.cham.leak = 20 := (congrArg (countUp 255) h).trans (by decide)
      rw [hleak, State.leakPulse, if_pos hlimit]
      dsimp only
      rw [hn]
      rfl
  · intro b timer again
    refine ⟨fun hearly => ?_, fun hdue hkeep => ?_, fun p hdue hp hspeed => ?_⟩
    · rw [exec_bleedExpiry, State.whenDue_early (s.begin w) (t := some timer) hearly]
    · rw [exec_bleedExpiry, State.whenDue_due (s.begin w) (t := some timer) hdue, State.bleed]
      cases hp : b.spin.params with
      | none => rfl
      | some p =>
        have hpar : s.spin.par = p := congrArg (fun q : Option Params => q.getD .none) hp
        have hfast : ¬ b.rot.speed < p.holdSpeed := by
          obtain hnone | hfast := hkeep
          · exact absurd (hnone.symm.trans hp) nofun
          · exact Nat.not_lt.2 (hpar ▸ hfast)
        dsimp only
        rw [if_neg (by exact hfast)]
        rfl
    · let t : ChamberCtl := { s.cham with bleedTimer := again }
      refine ⟨(t.bleedAll p.bleed).chambers, ?_, fun c => ⟨t.bleedAll_lastEnd _ c, ?_⟩⟩
      · rw [exec_bleedExpiry, State.whenDue_due (s.begin w) (t := some timer) hdue, State.bleed, show (s.begin w).spin.params = some p from hp]
        dsimp only
        rw [if_pos (by exact hspeed)]
        rfl
      · exact (t.content_bleedAll p.bleed c).trans (t.bled_eq p.bleed c)

/-! ## The supply timer (R152) -/

/-- Settles O39. -/
theorem supplyTimeoutDeclaresAFault : Obligations.SupplyTimeoutDeclaresAFault := by
  unfold Obligations.SupplyTimeoutDeclaresAFault
  intro w s
  refine ⟨fun hearly => ?_, fun f hdue hf => ?_⟩
  · rw [exec_supplyTimeout, State.whenDue_early (s.begin w) hearly]
  · intro fault ended noted
    have hnoted : exec (.supplyTimeout w) s = .next (noted.fillEndIfDone (decide (f.order.origin = .planner))).arbitrate := by
      rw [exec_supplyTimeout, State.whenDue_due (s.begin w) hdue, State.supplyTimeout,
        show (s.begin w).cham.flight = some f from hf]
      dsimp only
      rw [State.supplyFault, ChamberCtl.plannerInFlight_some (by exact hf)]
      rfl
    have hspin : noted.spin = s.spin := ((s.begin w).endAll_frame .supply).spin
    have hcham : ended.cham = s.cham.allOver f .supply := State.endAll_cham (s.begin w) hf _
    refine ⟨fun ho => ?_, fun ho hstate => ?_⟩
    · rw [hnoted, ho]
      rfl
    · have hq : noted.cham.queue = [] := congrArg ChamberCtl.queue hcham
      have hfree : noted.cham.flight = none := congrArg ChamberCtl.flight hcham
      rw [hnoted, ho, decide_eq_true rfl, State.fillEndIfDone_last hq hfree,
        State.fillEnd_balancing (by rw [hspin]; exact hstate), hspin]

end Sys2Proof.Machine
end

section
/-! Pairing, the opening of a revolution and torque samples (R7 to R9, R23, R50, R52; O40, O41, O46). -/

namespace Sys2Proof.Machine

/-! ## Reads and conversions whose slot edge is dealt with (R7, R25, R52) -/

theorem Sampler.readFromPending_eq (m : Sampler) (dst : ReadDest) : m.readFromPending dst = { m with
    read := m.read.map (fun r => if r.dest = .pending then { r with dest := dst } else r) } := by
  have hread : (fun r : ReadInProgress => if r.dest = .pending then { r with dest := dst } else r) = fun r =>
      match r.dest with
      | .pending => { r with dest := dst }
      | .slot _ => r
      | .nowhere => r := by
    funext r
    obtain ⟨timer, dest⟩ := r
    cases dest <;> rfl
  rw [hread]
  rfl

theorem Sampler.convFromPending_eq (m : Sampler) (dst : TorqueDest) : m.convFromPending dst = { m with
    conv := m.conv.map (fun c => if c.dest = .pending then { c with dest := dst } else c) } := by
  have hconv : (fun c : Conversion => if c.dest = .pending then { c with dest := dst } else c) = fun c =>
      match c.dest with
      | .pending => { c with dest := dst }
      | .accel => c
      | .hold => c
      | .nowhere => c := by
    funext c
    obtain ⟨timer, dest⟩ := c
    cases dest <;> rfl
  rw [hconv]
  rfl

/-- R52: a torque sample that is there enters the hold sum in HOLDING. -/
def Weigh.heldWith (g : Weigh) : Option Nat → Weigh
  | some t => if g.phase = .holding then g.addHold t else g
  | none => g

theorem State.torqueAssigned_eq (s : State) (torque : Option Nat) : s.torqueAssigned torque = { s with
    samp := { s.samp with conv := s.samp.conv.map (fun r => if r.dest = .pending then
      { r with dest := if s.weigh.phase = .holding then .hold else .nowhere } else r) }
    weigh := s.weigh.heldWith torque } := by
  unfold State.torqueAssigned
  rw [Sampler.convFromPending_eq, Sampler.convFromPending_eq]
  by_cases h : s.weigh.phase = .holding
  · cases torque with
    | none => simp only [if_pos h]; rfl
    | some t =>
      have hheld : s.weigh.heldWith (some t) = s.weigh.addHold t := if_pos h
      rw [hheld]
      simp only [if_pos h]
      rfl
  · have hheld : s.weigh.heldWith torque = s.weigh := by
      cases torque with
      | none => rfl
      | some t => exact if_neg h
    rw [hheld]
    simp only [if_neg h]
    rfl

/-- R7, R8, R52: the pending slot edge becomes the next slot of the open revolution. -/
theorem State.joinPending_open {s : State} {q : PendingSlot} {v : Revolution} (hq : s.rot.pendingSlot = some q)
    (hv : s.rot.rev = some v) : s.joinPending = { s with
      rot := { s.rot with pendingSlot := none, rev := some (v.assign q.sample ⟨q.ramping, q.filling⟩ q.struck) }
      samp := { s.samp with
        read := s.samp.read.map (fun r => if r.dest = .pending then { r with dest := .slot v.slots } else r)
        conv := s.samp.conv.map (fun r => if r.dest = .pending then
          { r with dest := if s.weigh.phase = .holding then .hold else .nowhere } else r) }
      weigh := s.weigh.heldWith q.torque } := by
  rw [State.joinPending, hq]
  dsimp only
  rw [hv]
  dsimp only
  rw [State.torqueAssigned_eq, Sampler.readFromPending_eq]
  rfl

/-- R7: in WAITING the pending slot edge joins no revolution. -/
theorem State.joinPending_waiting {s : State} {q : PendingSlot} (hq : s.rot.pendingSlot = some q)
    (hv : s.rot.rev = none) : s.joinPending = { s with
      rot := { s.rot with pendingSlot := none }
      samp := { s.samp with
        read := s.samp.read.map (fun r => if r.dest = .pending then { r with dest := .nowhere } else r)
        conv := s.samp.conv.map (fun r => if r.dest = .pending then { r with dest := .nowhere } else r) } } := by
  rw [State.joinPending, hq]
  dsimp only
  rw [hv]
  dsimp only
  rw [Sampler.readFromPending_eq, Sampler.convFromPending_eq]
  rfl

theorem exec_pairingWindowExpiry (w : Wait) (s : State) : exec (.pairingWindowExpiry w) s =
    .next ((s.begin w).whenDue s.rot.window State.closeWindow).arbitrate := exec_eq _ _

theorem exec_pendingPairingExpiry (w : Wait) (s : State) : exec (.pendingPairingExpiry w) s =
    .next ((s.begin w).whenDue (s.rot.pendingSlot.map PendingSlot.timer) State.joinPending).arbitrate := exec_eq _ _

/-- Settles O40. -/
theorem pairingExpiries : Obligations.PairingExpiries := by
  unfold Obligations.PairingExpiries
  intro w s b held
  have hdue (q : PendingSlot) (hq : s.rot.pendingSlot = some q) (hd : q.timer.due b.time = true) :
      exec (.pendingPairingExpiry w) s = .next b.joinPending.arbitrate := by
    rw [exec_pendingPairingExpiry, hq, Option.map_some, State.whenDue_due (s.begin w) (t := some q.timer) hd]
  refine ⟨fun hearly => ?_, fun hd => ?_, fun hearly => ?_, fun q hq hd hv => ?_, fun q v hq hd hv => ?_⟩
  · rw [exec_pairingWindowExpiry, State.whenDue_early (s.begin w) hearly]
  · rw [exec_pairingWindowExpiry, State.whenDue_due (s.begin w) hd]
    rfl
  · rw [exec_pendingPairingExpiry]
    cases hq : s.rot.pendingSlot with
    | none => rw [Option.map_none, State.whenDue_early (s.begin w) (t := none) rfl]
    | some q => rw [Option.map_some, State.whenDue_early (s.begin w) (t := some q.timer) (hearly q hq)]
  · rw [hdue q hq hd, State.joinPending_waiting (s := b) hq hv]
    rfl
  · rw [hdue q hq hd, State.joinPending_open (s := b) hq hv]
    cases q.torque <;> rfl

/-! ## An index edge in WAITING (R7, R9) -/

/-- R7, R9: the revolution opens with the pending slot edge as its slot 0. -/
theorem State.openRevolution_paired {s : State} {q : PendingSlot} (hq : s.rot.pendingSlot = some q) (l : Look) :
    s.openRevolution l = { s with
      rot := { s.rot with
        rev := some ⟨s.time, true, 1, [q.sample], l.ramping || q.ramping, l.filling || q.filling, q.struck⟩
        window := none, pendingSlot := none, sinceIndex := 1, indexLost := false }
      samp := { s.samp with
        read := s.samp.read.map (fun r => if r.dest = .pending then { r with dest := .slot 0 } else r) } } := by
  rw [State.openRevolution, hq]
  dsimp only
  rw [Sampler.readFromPending_eq]
  rfl

/-- R7, R9: the revolution opens with its pairing window. -/
theorem State.openRevolution_unpaired {s : State} (hq : s.rot.pendingSlot = none) (l : Look) :
    s.openRevolution l = s.setRot { s.rot with
      rev := some ⟨s.time, false, 0, [], l.ramping, l.filling, false⟩
      window := some ⟨s.time, 200⟩, sinceIndex := 0, indexLost := false } := by
  rw [State.openRevolution, hq]
  rfl

theorem State.torqueAssigned_nothing {s : State} (h : ∀ c, s.samp.conv = some c → c.dest ≠ .pending) :
    s.torqueAssigned none = s := by
  have hconv : s.samp.conv.map (fun r => if r.dest = .pending then
      { r with dest := if s.weigh.phase = .holding then .hold else .nowhere } else r) = s.samp.conv := by
    cases hc : s.samp.conv with
    | none => rfl
    | some c => exact congrArg some (if_neg (h c hc))
  rw [State.torqueAssigned_eq, hconv]
  rfl

theorem exec_indexEdge (w : Wait) (sf : Bool) (s : State) :
    exec (.indexEdge w sf) s = .next ((s.begin w).indexEdge sf).arbitrate := exec_eq _ _

theorem State.indexEdge_waiting {s : State} (h : s.rot.rev = none) (sf : Bool) : s.indexEdge sf =
    (s.openRevolution s.look).torqueAssigned (s.rot.pendingSlot.bind PendingSlot.torque) := by
  rw [State.indexEdge, h]

/-- Settles O41. -/
theorem indexEdgeOpensARevolution : Obligations.IndexEdgeOpensARevolution := by
  unfold Obligations.IndexEdgeOpensARevolution
  intro w sf s hrev b held ramping filling
  have hedge := State.indexEdge_waiting (s := b) hrev sf
  refine ⟨fun hq hconv => ?_, fun q hq => ?_⟩
  · rw [exec_indexEdge, hedge, show b.rot.pendingSlot = none from hq, State.openRevolution_unpaired (s := b) hq]
    rw [Option.bind_none, State.torqueAssigned_nothing (s := b.setRot _) hconv]
    rfl
  · rw [exec_indexEdge, hedge, show b.rot.pendingSlot = some q from hq, State.openRevolution_paired (s := b) hq,
      Option.bind_some, State.torqueAssigned_eq]
    cases q.torque <;> rfl

/-! ## A completed conversion (R23, R50, R52) -/

theorem exec_conversionComplete (w : Wait) (code : BitVec 10) (s : State) : exec (.conversionComplete w code) s =
    .next ((s.begin w).whenDue (s.samp.conv.map Conversion.timer) (fun s => s.conversionComplete code)).arbitrate :=
  exec_eq _ _

/-- Settles O46. -/
theorem conversionCompleteSumsTheTorque : Obligations.ConversionCompleteSumsTheTorque := by
  unfold Obligations.ConversionCompleteSumsTheTorque
  intro w code c s hc b t done
  have ht : torqueOf code = t := rfl
  have hexec : exec (.conversionComplete w code) s =
      .next (b.whenDue (some c.timer) (fun s => s.conversionComplete code)).arbitrate := by
    rw [exec_conversionComplete, hc]
    rfl
  have hdue (hd : c.timer.due b.time = true) :
      exec (.conversionComplete w code) s = .next (b.conversionDone c.dest t).arbitrate := by
    rw [hexec, State.whenDue_due b (t := some c.timer) hd, State.conversionComplete, show b.samp.conv = some c from hc, ← ht]
  refine ⟨fun hearly => ?_, fun hd h => ?_, fun hd h => ?_, fun hd h => ?_, fun hd h => ?_⟩
  · rw [hexec, State.whenDue_early b (t := some c.timer) hearly]
  all_goals rw [hdue hd, h]; rfl

end Sys2Proof.Machine
end

section
/-! The close of a revolution (R9 to R15, R22, R150; O42). -/

namespace Sys2Proof.Machine

/-! ## The record of the revolution (R10, R12, R13) -/

theorem settleSamples_read {xs : List Sample} (h : ∀ x ∈ xs, x ≠ .unread) (draw k : Nat) :
    settleSamples draw k xs = xs := by
  induction xs generalizing k with
  | nil => rfl
  | cons x rest ih =>
    have htail := ih (fun y hy => h y (List.mem_cons_of_mem x hy)) (k + 1)
    cases x with
    | unread => exact absurd rfl (h .unread List.mem_cons_self)
    | invalid => rw [settleSamples, htail]
    | valid a b => rw [settleSamples, htail]

theorem Sample.isInvalid_eq (x : Sample) : x.isInvalid = (x == .invalid) := by
  cases x <;> rfl

theorem periodSpeedOf_eq (draw : Nat) {us : Nat} (h : us ≠ 0) :
    periodSpeedOf draw us = min 4000 ((120000000 + us) / (2 * us)) := by
  rw [periodSpeedOf, if_neg h]
  rfl

theorem slotSpeedOf_eq (draw : Nat) {us : Nat} (h : us ≠ 0) :
    slotSpeedOf draw us = min 4000 ((3750000 + us) / (2 * us)) := by
  rw [slotSpeedOf, if_neg h]
  rfl

/-! ## A lowered speed (R150) -/

section
variable {s : State} {old : Nat}

theorem State.speedChanged_keeps (h : ¬ ((∃ p, s.spin.params = some p ∧ p.holdSpeed ≤ old ∧ s.rot.speed < p.holdSpeed)
    ∧ ∃ f, s.cham.flight = some f ∧ f.order.origin = .planner)) : s.speedChanged old = s := by
  unfold State.speedChanged
  cases hp : s.spin.params with
  | none => rfl
  | some p =>
    refine if_neg fun ⟨hold, hnow, hplan⟩ => h ⟨⟨p, hp, hold, hnow⟩, ?_⟩
    cases hf : s.cham.flight with
    | none => rw [ChamberCtl.plannerInFlight, hf] at hplan; exact nomatch hplan
    | some f =>
      rw [ChamberCtl.plannerInFlight_some hf] at hplan
      exact ⟨f, rfl, of_decide_eq_true hplan⟩

theorem State.speedChanged_ends (h : ∃ p, s.spin.params = some p ∧ p.holdSpeed ≤ old ∧ s.rot.speed < p.holdSpeed)
    (hf : ∃ f, s.cham.flight = some f ∧ f.order.origin = .planner) : s.speedChanged old = (s.endAll .speed).fillEnd := by
  obtain ⟨p, hp, hold, hnow⟩ := h
  obtain ⟨f, hf, ho⟩ := hf
  have hplan : s.cham.plannerInFlight = true := by
    rw [ChamberCtl.plannerInFlight_some hf]
    exact decide_eq_true ho
  rw [State.speedChanged, hp]
  refine (if_pos ⟨hold, hnow, hplan⟩).trans ?_
  rw [State.speedEnd, hplan, State.fillEndIfDone_last]
  · rw [s.endAll_cham hf]
    rfl
  · exact s.endAll_flight _

end

/-! ## The index edge in TIMING (R9) -/

section
variable {m : Sampler}

theorem Sampler.readLost_none (h : m.read = none) : m.readLost.read = none := by
  rw [Sampler.readLost, h]
  rfl

theorem Sampler.readLost_some {x : ReadInProgress} (h : m.read = some x) :
    m.readLost.read = some { x with dest := if x.dest = .pending then .pending else .nowhere } := by
  rw [Sampler.readLost, h]
  obtain ⟨timer, dest⟩ := x
  cases dest <;> rfl

end

theorem State.openRevolution_unheld {s : State} (hq : s.rot.pendingSlot = none) (l : Look) :
    s.openRevolution l = s.setRot { s.rot with
      rev := some ⟨s.time, false, 0, [], l.ramping, l.filling, false⟩
      window := some ⟨s.time, 200⟩, pendingSlot := none, sinceIndex := 0, indexLost := false } := by
  rw [State.openRevolution_unpaired hq, ← hq]

theorem State.indexEdge_timing {s : State} {v : Revolution} (h : s.rot.rev = some v) (sf : Bool) : s.indexEdge sf =
    ((((s.setRot (s.rot.closedBy (s.closeRecord v (s.rot.pendingSlot.isSome || sf) s.look))).setSamp
      (s.samp.readLost.revolutionClosed v.struck)).openRevolution s.look).handOff s.rot.speed
        (s.closeRecord v (s.rot.pendingSlot.isSome || sf) s.look)).torqueAssigned
      (s.rot.pendingSlot.bind PendingSlot.torque) := by
  rw [State.indexEdge, h]

theorem State.handOff_eq (s : State) (old : Nat) (r : RevRecord) : s.handOff old r =
    if Config.speedTakenFirst s.draw = true then ((s.traceRevolution r).speedChanged old).takeRecord r
    else ((s.traceRevolution r).takeRecord r).speedChanged old := rfl

/-- R12, R13: the record of a revolution whose reads have completed and whose period is not 0. -/
theorem State.closeRecord_eq (s : State) {v : Revolution} (h : ∀ x ∈ v.samples, x ≠ .unread)
    (hperiod : s.time - v.openedAt ≠ 0) (paired : Bool) (l : Look) : s.closeRecord v paired l =
      { number := s.rot.counter, period := s.time - v.openedAt
        speed := min 4000 ((120000000 + (s.time - v.openedAt).toNat) / (2 * (s.time - v.openedAt).toNat))
        slots := v.slots, samples := v.samples, peak := peakOf v.samples
        wellTimed := v.slots = 32 && v.paired && paired
        irregular := !(v.slots = 32 && v.paired && paired) || v.samples.any (fun x => x == .invalid)
        ramping := v.ramping || l.ramping, filling := v.filling || l.filling } := by
  have hus : (s.time - v.openedAt).toNat ≠ 0 := fun hz => hperiod (BitVec.eq_of_toNat_eq hz)
  rw [State.closeRecord, settleSamples_read h, periodSpeedOf_eq _ hus, funext Sample.isInvalid_eq]

/-- Settles O42. -/
theorem indexEdgeClosesARevolution : Obligations.IndexEdgeClosesARevolution := by
  unfold Obligations.IndexEdgeClosesARevolution
  refine ⟨fun w sf v s hrev => ?_, fun s old => ?_, fun s torque => ?_⟩
  · intro b pend ramping filling period wellTimed speed r next traced handed hperiod hread
    have hr : b.closeRecord v (b.rot.pendingSlot.isSome || sf) b.look = r := b.closeRecord_eq hread hperiod _ _
    have hopen : ((b.setRot (b.rot.closedBy r)).setSamp (b.samp.readLost.revolutionClosed v.struck)).openRevolution
        b.look = next := by
      cases hq : s.rot.pendingSlot with
      | none =>
        refine (State.openRevolution_unheld (by exact hq) _).trans ?_
        simp only [next, pend, hq]
        rfl
      | some q =>
        refine (State.openRevolution_paired (q := q) (by exact hq) _).trans ?_
        simp only [next, pend, hq]
        rw [show ((b.setRot (b.rot.closedBy r)).setSamp (b.samp.readLost.revolutionClosed v.struck)).samp.read =
          b.samp.readLost.read from rfl]
        cases hx : s.samp.read with
        | none =>
          rw [Sampler.readLost_none (m := b.samp) hx]
          rfl
        | some x =>
          rw [Sampler.readLost_some (m := b.samp) hx]
          obtain ⟨timer, dest⟩ := x
          cases dest <;> rfl
    rw [exec_indexEdge, State.indexEdge_timing (s := b) hrev, hr, hopen, State.handOff_eq]
    rfl
  · intro falls planned
    refine ⟨fun h => State.speedChanged_keeps h, fun hfalls hplanned hstate => ?_, fun hfalls hplanned hstate => ?_⟩
    · have hspin : (s.endAll .speed).spin = s.spin := (s.endAll_frame _).spin
      rw [State.speedChanged_ends hfalls hplanned, State.fillEnd_balancing (by rw [hspin]; exact hstate), hspin]
    · have hspin : (s.endAll .speed).spin = s.spin := (s.endAll_frame _).spin
      rw [State.speedChanged_ends hfalls hplanned, State.fillEnd, if_neg (by rw [hspin]; exact hstate)]
  · intro held
    rw [State.torqueAssigned_eq]
    cases torque <;> rfl

end Sys2Proof.Machine
end

section
/-! Slot edges: timed, sampled, placed and counted (R6, R7, R11, R15 to R20, R48 to R50; O43, O44). -/

namespace Sys2Proof.Machine

/-! ## What the ends of a plan leave alone -/

section
variable (s : State) (t : Rotation)

theorem State.setRot_handEnd (o : Order) (g : Nat) (r : EndReason) :
    (s.setRot t).handEnd o g r = (s.handEnd o g r).setRot t := by
  rw [State.handEnd_eq, State.handEnd_eq]
  rfl

theorem State.setRot_handDropped (r : EndReason) (os : List Order) :
    (s.setRot t).handDropped r os = (s.handDropped r os).setRot t := by
  induction os generalizing s with
  | nil => rfl
  | cons o rest ih => rw [State.handDropped, State.handDropped, s.setRot_handEnd, ih]

theorem State.setRot_endAll (r : EndReason) : (s.setRot t).endAll r = (s.endAll r).setRot t := by
  cases h : s.cham.flight with
  | none => rw [State.endAll_none (s.setRot t) h, s.endAll_none h]
  | some f =>
    rw [State.endAll_eq (s.setRot t) h, s.endAll_eq h, ← State.setRot_handDropped, ← State.setRot_handEnd]
    rfl

theorem State.setRot_fillEnd : (s.setRot t).fillEnd = s.fillEnd.setRot t := by
  by_cases h : s.spin.state = .balancing
  · rw [State.fillEnd_balancing h, State.fillEnd_balancing (by exact h)]
    rfl
  · rw [State.fillEnd, State.fillEnd, if_neg h, if_neg (by exact h)]

/-- R150: the speed alone decides, of the rotation. -/
theorem State.setRot_speedChanged (ht : t.speed = s.rot.speed) (old : Nat) :
    (s.setRot t).speedChanged old = (s.speedChanged old).setRot t := by
  by_cases h : (∃ p, s.spin.params = some p ∧ p.holdSpeed ≤ old ∧ s.rot.speed < p.holdSpeed)
      ∧ ∃ f, s.cham.flight = some f ∧ f.order.origin = .planner
  · obtain ⟨hfalls, hplan⟩ := h
    have hfalls' : ∃ p, s.spin.params = some p ∧ p.holdSpeed ≤ old ∧ t.speed < p.holdSpeed := by rwa [ht]
    rw [State.speedChanged_ends hfalls hplan, State.speedChanged_ends (s := s.setRot t) hfalls' hplan,
      State.setRot_endAll, State.setRot_fillEnd]
  · have h' := h
    rw [← ht] at h'
    rw [State.speedChanged_keeps h, State.speedChanged_keeps (s := s.setRot t) h']

end

/-- What a lowered speed leaves of the blocks beside the rotation. -/
structure SpeedKept (s t : State) : Prop where
  samp : t.samp = s.samp
  weigh : t.weigh = s.weigh
  params : t.spin.params = s.spin.params

theorem State.speedChanged_kept (s : State) (old : Nat) : SpeedKept s (s.speedChanged old) := by
  by_cases h : (∃ p, s.spin.params = some p ∧ p.holdSpeed ≤ old ∧ s.rot.speed < p.holdSpeed)
      ∧ ∃ f, s.cham.flight = some f ∧ f.order.origin = .planner
  · have hframe := s.endAll_frame .speed
    have hkept : SpeedKept s (s.endAll .speed) := ⟨hframe.samp, hframe.weigh, by rw [hframe.spin]⟩
    rw [State.speedChanged_ends h.1 h.2]
    unfold State.fillEnd
    split
    · exact ⟨hkept.samp, hkept.weigh, hkept.params⟩
    · exact hkept
  · rw [State.speedChanged_keeps h]
    exact ⟨rfl, rfl, rfl⟩

/-! ## The time and speed of a slot edge (R6, R11, R16) -/

/-- What a slot edge sets of the rotation's times (R6, R16). -/
def Rotation.timedAt (t : Rotation) (now : Stamp) (v : Nat) : Rotation :=
  { t with lastEdge := some now, slotSpeed := v, stopped := false, standstill := some ⟨now, 500000⟩ }

/-- The state in which the current speed follows the slot speed under the fallback (R11, R150). -/
def State.speedFollows (s : State) : State :=
  (s.setRot { s.rot with speed := if s.rot.fallback = true then s.newSlotSpeed else s.rot.speed }).speedChanged
    s.rot.speed

theorem State.timeSlotEdge_eq (s : State) : s.timeSlotEdge =
    s.speedFollows.setRot (s.speedFollows.rot.timedAt s.time s.newSlotSpeed) := by
  let t : Rotation := { s.rot with speed := if s.rot.fallback = true then s.newSlotSpeed else s.rot.speed }
  have hrot : s.speedFollows.rot = t := State.speedChanged_rot _ _
  rw [hrot]
  exact State.setRot_speedChanged (s.setRot t) (t.timedAt s.time s.newSlotSpeed) rfl _

/-- R7: joining the pending slot edge has nothing to do with the times. -/
theorem State.joinPending_timed (s : State) (now : Stamp) (v : Nat) :
    (s.setRot (s.rot.timedAt now v)).joinPending = s.joinPending.setRot (s.joinPending.rot.timedAt now v) := by
  cases hq : s.rot.pendingSlot with
  | none =>
    have hjoin : s.joinPending = s := by rw [State.joinPending, hq]
    rw [hjoin, State.joinPending, show (s.setRot (s.rot.timedAt now v)).rot.pendingSlot = none from hq]
  | some q =>
    cases hv : s.rot.rev with
    | none => rw [State.joinPending_waiting hq hv, State.joinPending_waiting (by exact hq) (by exact hv)]; rfl
    | some x => rw [State.joinPending_open hq hv, State.joinPending_open (by exact hq) (by exact hv)]; rfl

theorem Revolution.assign_unstruck (v : Revolution) (x : Sample) (l : Look) : v.assign x l false = { v with
    slots := v.slots + 1
    samples := if v.slots < 32 then v.samples ++ [x] else v.samples
    ramping := v.ramping || l.ramping
    filling := v.filling || l.filling } := by
  rw [Revolution.assign, Bool.or_false]
  rfl

/-- What dealing with the pending slot edge leaves alone. -/
structure JoinKept (s t : State) : Prop where
  time : t.time = s.time
  spin : t.spin = s.spin
  reading : t.samp.read.isSome = s.samp.read.isSome
  invalidRun : t.samp.invalidRun = s.samp.invalidRun
  sinceIndex : t.rot.sinceIndex = s.rot.sinceIndex
  indexLost : t.rot.indexLost = s.rot.indexLost

theorem State.joinPending_kept (s : State) : JoinKept s s.joinPending := by
  cases hq : s.rot.pendingSlot with
  | none =>
    rw [State.joinPending, hq]
    exact ⟨rfl, rfl, rfl, rfl, rfl, rfl⟩
  | some q =>
    cases hv : s.rot.rev with
    | none =>
      rw [State.joinPending_waiting hq hv]
      exact ⟨rfl, rfl, Option.isSome_map, rfl, rfl, rfl⟩
    | some x =>
      rw [State.joinPending_open hq hv]
      exact ⟨rfl, rfl, Option.isSome_map, rfl, rfl, rfl⟩

theorem State.placeSlotEdge_window {s : State} {t : Timer} {x : Revolution} (ht : s.rot.window = some t)
    (hx : s.rot.rev = some x) (l : Look) (climb : Bool) : s.placeSlotEdge l climb = s.pairWithWindow x l climb := by
  rw [State.placeSlotEdge, ht, hx]

theorem State.placeSlotEdge_held {s : State} (ht : s.rot.window = none) (l : Look) (climb : Bool) :
    s.placeSlotEdge l climb = s.holdPending l climb := by
  rw [State.placeSlotEdge, ht]

/-! ## The climb (R48 to R50) -/

/-- R48: the first slot edge of weigh_low or more begins the climb. -/
def Weigh.startClimb (p : Params) (now : Stamp) (v : Nat) (g : Weigh) : Weigh :=
  if g.phase = .below ∧ p.weighLow ≤ v then { g with t1 := some ⟨now, v⟩, phase := .accelerating } else g

theorem Weigh.slotEdge_eq (p : Params) (now : Stamp) (v : Nat) (g : Weigh) : g.slotEdge p now v =
    if (g.startClimb p now v).phase = .accelerating ∧ p.weighHigh ≤ v then
      { g.startClimb p now v with t2 := some ⟨now, v⟩, phase := .steadying }
    else g.startClimb p now v := by
  unfold Weigh.slotEdge Weigh.startClimb Weigh.endTest
  cases hphase : g.phase with
  | below =>
    by_cases hlow : p.weighLow ≤ v
    · simp [hlow]
    · simp [hlow, hphase]
  | accelerating => simp [hphase]
  | off => simp [hphase]
  | steadying => simp [hphase]
  | holding => simp [hphase]

theorem Weigh.climbSample_iff (p : Params) (v : Nat) (g : Weigh) :
    g.climbSample p v = true ↔ g.phase = .accelerating ∨ (g.phase = .below ∧ p.weighLow ≤ v) := by
  unfold Weigh.climbSample
  cases g.phase <;> simp

/-! ## The counts of a slot edge (R15, R20) -/

theorem State.countInvalid_running {s : State} (h : s.samp.invalidRun ≠ 7) :
    s.countInvalid = s.setSamp { s.samp with invalidRun := min 255 (s.samp.invalidRun + 1) } := if_neg h

theorem State.countSlotEdge_running {s : State} (h : s.rot.sinceIndex < 47 ∨ s.rot.indexLost = true) :
    s.countSlotEdge = s.setRot { s.rot with sinceIndex := min 48 (s.rot.sinceIndex + 1) } := by
  rw [State.countSlotEdge]
  refine if_neg fun ⟨hcount, hlost⟩ => ?_
  have hmin : min 48 (s.rot.sinceIndex + 1) = 48 := hcount
  obtain hlow | hset := h
  · omega
  · exact absurd (hset.symm.trans hlost) (by decide)

theorem exec_slotEdge (w : Wait) (s : State) : exec (.slotEdge w) s = .next (s.begin w).slotEdge.arbitrate := exec_eq _ _

/-- R18, R20, R23: the sampler after a slot edge that starts its read and its conversion, or finds them in progress. -/
def Sampler.edgeSampled (m : Sampler) (now : Stamp) (dest : ReadDest) (torque : TorqueDest) : Sampler :=
  { read := if m.read.isSome = true then m.read else some ⟨⟨now, 18⟩, dest⟩
    conv := if m.conv.isSome = true then m.conv else some ⟨⟨now, 12⟩, torque⟩
    invalidRun := if m.read.isSome = true then min 255 (m.invalidRun + 1) else m.invalidRun
    idleStrike := m.idleStrike }

/-- The last steps of a slot edge that was placed: sampling, the Weigh Unit and the counts. -/
theorem State.slotEdge_ends {s : State} (dest : ReadDest) (torque : TorqueDest)
    (hsince : s.rot.sinceIndex < 47 ∨ s.rot.indexLost = true) (hrun : s.samp.read.isSome = true → s.samp.invalidRun ≠ 7) :
    (if s.samp.read.isSome = true then (s.startSampling dest torque).weighSlotEdge.countInvalid
      else (s.startSampling dest torque).weighSlotEdge).countSlotEdge = { s with
        rot := { s.rot with sinceIndex := min 48 (s.rot.sinceIndex + 1) }
        samp := s.samp.edgeSampled s.time dest torque
        weigh := s.weigh.slotEdge s.spin.par s.time s.rot.slotSpeed } := by
  unfold Sampler.edgeSampled
  by_cases hread : s.samp.read.isSome = true
  · rw [if_pos hread, State.countInvalid_running (by exact hrun hread), State.countSlotEdge_running (by exact hsince)]
    have hcount : (if s.samp.read.isSome = true then min 255 (s.samp.invalidRun + 1) else s.samp.invalidRun) =
      min 255 (s.samp.invalidRun + 1) := if_pos hread
    rw [hcount]
    rfl
  · rw [if_neg hread, State.countSlotEdge_running (by exact hsince)]
    have hcount : (if s.samp.read.isSome = true then min 255 (s.samp.invalidRun + 1) else s.samp.invalidRun) =
      s.samp.invalidRun := if_neg hread
    rw [hcount]
    rfl

/-- Settles O43. -/
theorem slotEdgeIsTimedSampledAndPlaced : Obligations.SlotEdgeIsTimedSampledAndPlaced := by
  unfold Obligations.SlotEdgeIsTimedSampledAndPlaced
  intro w s hsince hrun htime b ramping filling v e j timed sampled sample climbing started climbed
  have hv : b.newSlotSpeed = v := by
    rw [State.newSlotSpeed]
    show (if s.rot.stopped = true then 0 else _) = v
    cases hstop : s.rot.stopped with
    | true => simp [v, hstop]
    | false =>
      cases hlast : s.rot.lastEdge with
      | none => simp [v, hstop, hlast, b, State.begin]
      | some t =>
        have hus : (b.time - t).toNat ≠ 0 := fun hz => htime t hstop hlast (by
          have hz : ((s.begin w).time - t).toNat = 0 := hz
          bv_omega)
        simp only [v, hstop, hlast]
        rw [show b.rot.lastEdge = some t from hlast]
        exact slotSpeedOf_eq _ hus
  have he : b.speedFollows = e := by rw [State.speedFollows, hv]; rfl
  have hkept : SpeedKept (b.setRot _) e := State.speedChanged_kept _ _
  have hsamp : e.samp = s.samp := hkept.samp
  have hweigh : e.weigh = s.weigh := hkept.weigh
  have hpar : e.spin.par = s.spin.par := congrArg (fun q : Option Params => q.getD .none) hkept.params
  have herot : e.rot = { s.rot with speed := if s.rot.fallback = true then v else s.rot.speed } :=
    State.speedChanged_rot _ _
  have hetime : e.time = b.time := (State.speedChanged_frame _ _).time
  have htimed : b.timeSlotEdge = e.setRot (e.rot.timedAt b.time v) := by rw [State.timeSlotEdge_eq, he, hv]
  have hclimb : (e.setRot (e.rot.timedAt b.time v)).weigh.climbSample (e.setRot (e.rot.timedAt b.time v)).spin.par
      (e.setRot (e.rot.timedAt b.time v)).rot.slotSpeed = decide climbing := by
    rw [Bool.eq_iff_iff, decide_eq_true_iff]
    show e.weigh.climbSample e.spin.par v = true ↔ _
    rw [hweigh, hpar]
    exact Weigh.climbSample_iff _ _ _
  have hclimbed (g : Weigh) : g.slotEdge s.spin.par b.time v = climbed g := Weigh.slotEdge_eq _ _ _ _
  have hexec (u : State) (dest : ReadDest) (torque : TorqueDest)
      (hplace : (e.setRot (e.rot.timedAt b.time v)).placeSlotEdge b.look (decide climbing) = u.startSampling dest torque)
      (hread : u.samp.read.isSome = s.samp.read.isSome) (hinvalid : u.samp.invalidRun = s.samp.invalidRun)
      (hindex : u.rot.sinceIndex = s.rot.sinceIndex) (hlost : u.rot.indexLost = s.rot.indexLost) :
      exec (.slotEdge w) s = .next (State.arbitrate { u with
        rot := { u.rot with sinceIndex := min 48 (u.rot.sinceIndex + 1) }
        samp := u.samp.edgeSampled u.time dest torque
        weigh := u.weigh.slotEdge u.spin.par u.time u.rot.slotSpeed }) := by
    rw [← State.slotEdge_ends dest torque (by rw [hindex, hlost]; exact hsince)
      (by rw [hread, hinvalid]; exact hrun), exec_slotEdge, ← hplace, hread, ← hsamp]
    show Host.Outcome.next (State.slotEdge b).arbitrate = _
    rw [State.slotEdge, htimed, hclimb]
    rfl
  have hsample : (e.setRot (e.rot.timedAt b.time v)).firstSample = sample := by
    show (if e.samp.read.isSome = true then _ else _) = _
    rw [hsamp]
  have hindex : e.rot.sinceIndex = s.rot.sinceIndex := by rw [herot]
  have hlost : e.rot.indexLost = s.rot.indexLost := by rw [herot]
  refine ⟨fun t x ht hx => ?_, fun hwindow => ?_⟩
  · let u := (e.setRot (e.rot.timedAt b.time v)).setRot { e.rot.timedAt b.time v with
      rev := some { x.assign sample b.look false with paired := true }, window := none }
    have htorque : (if decide climbing = true then .accel else if e.weigh.phase = .holding then .hold else .nowhere : TorqueDest) =
        if climbing then .accel else if s.weigh.phase = .holding then .hold else .nowhere := by
      rw [hweigh]
      exact ite_congr (propext decide_eq_true_iff) (fun _ => rfl) (fun _ => rfl)
    have hplace : (e.setRot (e.rot.timedAt b.time v)).placeSlotEdge b.look (decide climbing) = u.startSampling
        (.slot x.slots) (if climbing then .accel else if s.weigh.phase = .holding then .hold else .nowhere) := by
      rw [State.placeSlotEdge_window (t := t) (x := x) (by rw [herot]; exact ht) (by rw [herot]; exact hx), State.pairWithWindow,
        hsample, ← htorque]
      rfl
    have hrot : { u.rot with sinceIndex := min 48 (u.rot.sinceIndex + 1) } = timed { e.rot with
        window := none
        rev := some { x with
          paired := true
          slots := x.slots + 1
          samples := if x.slots < 32 then x.samples ++ [sample] else x.samples
          ramping := x.ramping || ramping
          filling := x.filling || filling } } := by
      show { u.rot with sinceIndex := min 48 (e.rot.sinceIndex + 1) } = _
      rw [hindex, show u.rot = { e.rot.timedAt b.time v with
        rev := some { x.assign sample b.look false with paired := true }, window := none } from rfl,
        Revolution.assign_unstruck]
      rfl
    rw [hexec u _ _ hplace (by rw [← hsamp]; rfl) (by rw [← hsamp]; rfl) hindex hlost, hrot]
    have hweighed : u.weigh.slotEdge u.spin.par u.time u.rot.slotSpeed = climbed s.weigh := by
      rw [← hclimbed, ← hweigh, ← hpar, ← hetime]
      rfl
    have hsampled (torque : TorqueDest) : u.samp.edgeSampled u.time (.slot x.slots) torque =
        sampled s.samp (.slot x.slots) torque := by
      rw [← hsamp, show u.time = e.time from rfl, hetime]
      rfl
    rw [hweighed, hsampled]
    rfl
  · have hjoin := e.joinPending_kept
    let j' := j.setRot (j.rot.timedAt b.time v)
    have hj : (e.setRot (e.rot.timedAt b.time v)).joinPending = j' := e.joinPending_timed _ _
    let u := j'.setRot { j'.rot with pendingSlot := some ⟨⟨b.time, 200⟩, sample, none, ramping, filling, false⟩ }
    have hplace : (e.setRot (e.rot.timedAt b.time v)).placeSlotEdge b.look (decide climbing) = u.startSampling
        .pending (if climbing then .accel else .pending) := by
      rw [State.placeSlotEdge_held (by rw [herot]; exact hwindow), State.holdPending, hj, hsample]
      show State.startSampling (j'.setRot { j'.rot with pendingSlot := some ⟨⟨e.time, 200⟩, sample, none, ramping, filling, false⟩ })
        .pending (if decide climbing = true then .accel else .pending) = _
      rw [hetime, ite_congr (propext decide_eq_true_iff) (fun _ => rfl) (fun _ => rfl)]
    have hweighed : u.weigh.slotEdge u.spin.par u.time u.rot.slotSpeed = climbed j.weigh := by
      rw [← hclimbed, ← hpar, ← hetime, ← hjoin.spin, ← hjoin.time]
      rfl
    rw [hexec u _ _ hplace (hjoin.reading.trans (by rw [hsamp])) (hjoin.invalidRun.trans (by rw [hsamp]))
      (hjoin.sinceIndex.trans hindex) (hjoin.indexLost.trans hlost), hweighed]
    have hsampled (torque : TorqueDest) : u.samp.edgeSampled u.time .pending torque = sampled j.samp .pending torque := by
      rw [show u.time = j.time from rfl, hjoin.time, hetime]
      rfl
    have hcount : min 48 (u.rot.sinceIndex + 1) = min 48 (s.rot.sinceIndex + 1) := by
      rw [show u.rot.sinceIndex = j.rot.sinceIndex from rfl, hjoin.sinceIndex, hindex]
    rw [hsampled, hcount]
    rfl

end Sys2Proof.Machine
end

section
/-! Index loss, standstill and completed reads (R15, R16, R18 to R22, R131, R132; O44, O45, O47). -/

namespace Sys2Proof.Machine

/-! ## What placing a slot edge leaves alone -/

structure PlaceKept (s t : State) : Prop where
  spin : t.spin = s.spin
  est : t.est = s.est
  link : t.link = s.link
  table : t.table = s.table
  trace : t.trace = s.trace
  serv : t.serv = s.serv
  sinceIndex : t.rot.sinceIndex = s.rot.sinceIndex
  indexLost : t.rot.indexLost = s.rot.indexLost
  counter : t.rot.counter = s.rot.counter
  stopped : t.rot.stopped = s.rot.stopped

theorem PlaceKept.refl (s : State) : PlaceKept s s := ⟨rfl, rfl, rfl, rfl, rfl, rfl, rfl, rfl, rfl, rfl⟩

theorem State.joinPending_placeKept (s : State) : PlaceKept s s.joinPending := by
  cases hq : s.rot.pendingSlot with
  | none =>
    rw [State.joinPending, hq]
    exact .refl s
  | some q =>
    cases hv : s.rot.rev with
    | none =>
      rw [State.joinPending_waiting hq hv]
      exact ⟨rfl, rfl, rfl, rfl, rfl, rfl, rfl, rfl, rfl, rfl⟩
    | some x =>
      rw [State.joinPending_open hq hv]
      exact ⟨rfl, rfl, rfl, rfl, rfl, rfl, rfl, rfl, rfl, rfl⟩

theorem State.placeSlotEdge_kept (s : State) (l : Look) (climb : Bool) : PlaceKept s (s.placeSlotEdge l climb) := by
  have hheld : PlaceKept s (s.holdPending l climb) := by
    obtain ⟨h1, h2, h3, h4, h5, h6, h7, h8, h9, h10⟩ := s.joinPending_placeKept
    exact ⟨h1, h2, h3, h4, h5, h6, h7, h8, h9, h10⟩
  unfold State.placeSlotEdge
  split
  · exact ⟨rfl, rfl, rfl, rfl, rfl, rfl, rfl, rfl, rfl, rfl⟩
  · exact hheld

/-- R150: what a lowered speed makes of the session. -/
theorem State.speedChanged_spin (s : State) (old : Nat) : (s.speedChanged old).spin = s.spin
    ∨ (s.spin.state = .balancing ∧ (s.speedChanged old).spin = { s.spin with state := .settling, settle := 0 }) := by
  by_cases h : (∃ p, s.spin.params = some p ∧ p.holdSpeed ≤ old ∧ s.rot.speed < p.holdSpeed)
      ∧ ∃ f, s.cham.flight = some f ∧ f.order.origin = .planner
  · have hspin : (s.endAll .speed).spin = s.spin := (s.endAll_frame _).spin
    rw [State.speedChanged_ends h.1 h.2]
    by_cases hstate : s.spin.state = .balancing
    · refine .inr ⟨hstate, ?_⟩
      rw [State.fillEnd_balancing (by rw [hspin]; exact hstate), hspin]
      rfl
    · rw [State.fillEnd, hspin, if_neg hstate, hspin]
      exact .inl rfl
  · rw [State.speedChanged_keeps h]
    exact .inl rfl

/-! ## Index loss (R15, R22, R131) -/

/-- R15: the state in which index loss is declared. -/
def State.indexGone (s : State) : State :=
  let s1 := s.discardRevolution
  s1.setRot { s1.rot with indexLost := true, fallback := true }

theorem State.indexLoss_eq (s : State) : s.indexLoss = s.indexGone.indexLossEvent := rfl

theorem State.countSlotEdge_lost {s : State} (h : s.rot.sinceIndex = 47) (hlost : s.rot.indexLost = false) :
    s.countSlotEdge = (s.setRot { s.rot with sinceIndex := 48 }).indexLoss := by
  have hn : countUp indexLossCount s.rot.sinceIndex = 48 := by rw [h]; decide
  rw [State.countSlotEdge]
  dsimp only
  rw [hn]
  exact if_pos ⟨rfl, hlost⟩

theorem State.indexLossEvent_session (s : State) : SessionFrame s s.indexLossEvent := by
  unfold State.indexLossEvent
  split
  · exact .report _ _
  · exact s.abortOn_frame _

/-- R131: a session that index loss aborts. -/
theorem State.indexLossEvent_aborts {s : State} (h : s.spin.state.active = true ∨ s.spin.state = .winddown)
    (hrun : s.rot.stopped = false) : s.indexLossEvent = s.sessionClosed .aborting .index false true := by
  have hidle : ¬ s.spin.state = .idle := fun hi => by rw [hi] at h; revert h; decide
  have hstopped : (s.sessionClosed .aborting .index false true).rot.stopped = false :=
    (congrArg Rotation.stopped s.plateauLeft_frame.rot).trans hrun
  rw [State.indexLossEvent, if_neg hidle, State.abortOn_running h, State.endedIfStopped, hstopped]
  rfl

/-- Settles O44. -/
theorem indexLossDiscardsTheRevolution : Obligations.IndexLossDiscardsTheRevolution := by
  unfold Obligations.IndexLossDiscardsTheRevolution
  intro w s hsince hlost hread
  let b := s.begin w
  let e := b.timeSlotEdge
  let p := (e.placeSlotEdge b.look (e.weigh.climbSample e.spin.par e.rot.slotSpeed)).weighSlotEdge
  let z := (p.setRot { p.rot with sinceIndex := 48 }).indexGone
  have hplace : PlaceKept e p := by
    obtain ⟨h1, h2, h3, h4, h5, h6, h7, h8, h9, h10⟩ :=
      e.placeSlotEdge_kept b.look (e.weigh.climbSample e.spin.par e.rot.slotSpeed)
    exact ⟨h1, h2, h3, h4, h5, h6, h7, h8, h9, h10⟩
  have hedge : e = b.speedFollows.setRot (b.speedFollows.rot.timedAt b.time b.newSlotSpeed) := b.timeSlotEdge_eq
  have hframe : SessionFrame (b.setRot _) b.speedFollows := State.speedChanged_frame _ _
  have hesince : e.rot.sinceIndex = 47 := by rw [hedge]; exact (congrArg Rotation.sinceIndex hframe.rot).trans hsince
  have helost : e.rot.indexLost = false := by rw [hedge]; exact (congrArg Rotation.indexLost hframe.rot).trans hlost
  have hecounter : e.rot.counter = s.rot.counter := by rw [hedge]; exact (congrArg Rotation.counter hframe.rot).trans rfl
  have hestopped : e.rot.stopped = false := by rw [hedge]; rfl
  have heread : e.samp.read = none := by
    rw [hedge]
    exact (congrArg Sampler.read (State.speedChanged_kept (b.setRot _) _).samp).trans hread
  have hslot : b.slotEdge = z.indexLossEvent := by
    rw [State.slotEdge]
    show (if e.samp.read.isSome = true then p.countInvalid else p).countSlotEdge = _
    rw [heread, if_neg (by decide), State.countSlotEdge_lost (hplace.sinceIndex.trans hesince)
      (hplace.indexLost.trans helost), State.indexLoss_eq]
  have hrot : z.indexLossEvent.rot = z.rot := State.indexLossEvent_rot z
  have hloss : SessionFrame z z.indexLossEvent := z.indexLossEvent_session
  have hzstopped : z.rot.stopped = false := hplace.stopped.trans hestopped
  have hspin : z.spin = b.speedFollows.spin := hplace.spin.trans (by rw [hedge]; rfl)
  refine ⟨z.indexLossEvent, by rw [exec_slotEdge]; exact congrArg (fun t : State => Host.Outcome.next t.arbitrate) hslot,
    by rw [hrot]; rfl, by rw [hrot]; rfl, by rw [hrot]; rfl, by rw [hrot]; rfl, by rw [hrot]; rfl, by rw [hrot]; rfl,
    by rw [hrot]; exact hplace.counter.trans hecounter, by rw [hrot]; exact hzstopped, ?_, ?_, ?_, ?_, ?_, ?_⟩
  · exact hloss.table.trans (hplace.table.trans (by rw [hedge]; exact hframe.table))
  · exact hloss.trace.trans (hplace.trace.trans (by rw [hedge]; exact hframe.trace))
  · exact hloss.serv.trans (hplace.serv.trans (by rw [hedge]; exact hframe.serv))
  · intro hidle hplan
    have hkeeps : b.speedFollows = b.setRot _ := State.speedChanged_keeps fun h => by
      obtain ⟨-, f, hf, ho⟩ := h
      have hservice := (ChamberCtl.plannerInFlight_some hf).symm.trans hplan
      rw [ho] at hservice
      exact nomatch hservice
    have hzidle : z.spin.state = .idle := by rw [hspin, hkeeps]; exact hidle
    have hevent : z.indexLossEvent = giveReport (.fault (.index z.rot.counter)) z := if_pos hzidle
    have hcounter : z.rot.counter = s.rot.counter := hplace.counter.trans hecounter
    rw [hevent, hcounter]
    refine ⟨?_, ?_, ?_⟩
    · exact hspin.trans (by rw [hkeeps]; rfl)
    · exact hplace.est.trans (by rw [hedge, hkeeps]; rfl)
    · exact congrArg (fun l : Link => l.giveReport (.fault (.index s.rot.counter)))
        (hplace.link.trans (by rw [hedge, hkeeps]; rfl))
  · intro hrun
    have hzrun : z.spin.state.active = true ∨ z.spin.state = .winddown := by
      rw [hspin]
      obtain hkept | ⟨-, hends⟩ := State.speedChanged_spin (b.setRot _) b.rot.speed
      · exact (congrArg Spin.state hkept).symm ▸ hrun
      · exact .inl (congrArg (fun q : Spin => q.state.active) hends)
    rw [State.indexLossEvent_aborts hzrun hzstopped]
    exact ⟨rfl, rfl, rfl, rfl, rfl⟩
  · intro habort
    have hzspin : z.spin = s.spin := by
      rw [hspin]
      obtain hkept | ⟨hbalancing, -⟩ := State.speedChanged_spin (b.setRot _) b.rot.speed
      · exact hkept
      · exact absurd (habort.symm.trans hbalancing) (by decide)
    have hzabort : z.spin.state = .aborting := by rw [hzspin]; exact habort
    rw [State.indexLossEvent, if_neg (by rw [hzabort]; decide), State.abortOn_idle (.inr hzabort), hzspin]

end Sys2Proof.Machine
end

section
/-! Completed sensor reads and standstill (R16, R18 to R22, R131, R132; O45, O47). -/

namespace Sys2Proof.Machine

/-! ## The sensor port (R18) -/

theorem shiftIn_eq {line : Nat → Bool} {first : Nat} {x : BitVec 12}
    (h : ∀ i, i < 12 → line (first + i) = x.getLsbD (11 - i)) : shiftIn line first 12 = x := by
  refine BitVec.eq_of_getLsbD_eq fun i hi => ?_
  rw [shiftIn_bit line first 12 i hi, decide_eq_true hi, Bool.true_and, h _ (by omega)]
  congr 1
  omega

theorem sdiPair_eq {line : Nat → Bool} {x y : BitVec 12} (hx : ∀ i, i < 12 → line (9 + i) = x.getLsbD (11 - i))
    (hy : ∀ i, i < 12 → line (21 + i) = y.getLsbD (11 - i)) : sdiPair line = samplePair x y := by
  rw [sdiPair, shiftIn_eq hx, shiftIn_eq hy]

theorem exec_readComplete (w : Wait) (x y : BitVec 12) (s : State) : exec (.readComplete w x y) s =
    .next ((s.begin w).whenDue (s.samp.read.map ReadInProgress.timer) (fun s => s.readComplete x y)).arbitrate :=
  exec_eq _ _

theorem State.readComplete_eq {s : State} {r : ReadInProgress} (h : s.samp.read = some r) (x y : BitVec 12) :
    s.readComplete x y = s.readDone r.dest (samplePair x y) := by
  rw [State.readComplete, h]
  dsimp only
  rw [sdiPair_sensorLevel]

/-! ## The pair of a read (R19 to R22) -/

section
variable (s : State) (dest : ReadDest)

theorem Rotation.storePair_counter (t : Rotation) (v : Sample) (hit : Bool) :
    (t.storePair dest v hit).counter = t.counter := by
  cases dest <;> rfl

theorem State.isStrike_iff (x y : Int) :
    s.isStrike x y = true ↔ ∃ p, s.spin.params = some p ∧ p.strikeLimit < mag ⟨x, y⟩ := by
  unfold State.isStrike
  cases s.spin.params <;> simp

/-- R20: a valid pair stored, the run of invalid ones ended. -/
def State.pairStored (x y : Int) (hit : Bool) : State :=
  (s.setRot (s.rot.storePair dest (.valid x y) hit)).setSamp { s.samp with read := none, invalidRun := 0 }

/-- R20: an invalid pair stored and counted. -/
def State.pairLost : State :=
  (s.setRot (s.rot.storePair dest .invalid false)).setSamp
    { s.samp with read := none, invalidRun := min 255 (s.samp.invalidRun + 1) }

variable {s dest}

theorem State.readDone_good {x y : Int} (h : ¬ ∃ p, s.spin.params = some p ∧ p.strikeLimit < mag ⟨x, y⟩) :
    s.readDone dest (.valid x y) = s.pairStored dest x y false := by
  have hstrike : s.isStrike x y = false := Bool.eq_false_iff.2 fun ht => h ((s.isStrike_iff x y).1 ht)
  rw [State.readDone]
  dsimp only
  rw [hstrike]
  rfl

theorem State.readDone_strike {x y : Int} (h : ∃ p, s.spin.params = some p ∧ p.strikeLimit < mag ⟨x, y⟩) :
    s.readDone dest (.valid x y) = (s.pairStored dest x y true).strikeEvent x y (mag ⟨x, y⟩) := by
  rw [State.readDone]
  dsimp only
  rw [(s.isStrike_iff x y).2 h]
  rfl

theorem State.readDone_invalid (h : s.samp.invalidRun ≠ 7) : s.readDone dest .invalid = s.pairLost dest :=
  State.countInvalid_running (s := (s.setSamp { s.samp with read := none }).setRot _) h

theorem State.readDone_eighth (h : s.samp.invalidRun = 7) :
    s.readDone dest .invalid = (s.pairLost dest).sensorEvent := if_pos h

end

/-- Settles O45. -/
theorem readCompleteChecksThePair : Obligations.ReadCompleteChecksThePair := by
  unfold Obligations.ReadCompleteChecksThePair
  refine ⟨fun w x y r s hr hdue => ?_, fun w x y s hearly => ?_, fun line x y hx hy => sdiPair_eq hx hy, fun s => ?_⟩
  · intro b m strike stored good bad abort running valid
    have hstored (v : Sample) (hit : Bool) : s.rot.storePair r.dest v hit = stored v hit := by
      simp only [stored]
      cases r.dest <;> rfl
    have hgood (hit : Bool) : b.pairStored r.dest x.toInt y.toInt hit = good hit := by
      rw [State.pairStored, show b.rot = s.rot from rfl, hstored]
      rfl
    have hbad : b.pairLost r.dest = bad := by
      rw [State.pairLost, show b.rot = s.rot from rfl, hstored]
      rfl
    have hcounter (v : Sample) (hit : Bool) : (stored v hit).counter = s.rot.counter := by
      rw [← hstored, Rotation.storePair_counter]
    have hexec : exec (.readComplete w x y) s = .next (b.readDone r.dest (samplePair x y)).arbitrate := by
      rw [exec_readComplete, hr, Option.map_some, State.whenDue_due (s.begin w) (t := some r.timer) hdue,
        State.readComplete_eq (s := s.begin w) hr]
    have hvalid (h : valid) : samplePair x y = .valid x.toInt y.toInt := if_neg fun hbad => hbad.elim h.1 h.2
    have hinvalid (h : ¬ valid) : samplePair x y = .invalid := if_pos (by
      refine Classical.byContradiction fun hno => ?_
      exact h ⟨fun hx => hno (.inl hx), fun hy => hno (.inr hy)⟩)
    have hstrike (h : valid) (hit : strike) :
        exec (.readComplete w x y) s = .next ((good true).strikeEvent x.toInt y.toInt m).arbitrate := by
      rw [hexec, hvalid h, State.readDone_strike (s := b) hit, hgood]
    have heighth (h : ¬ valid) (h7 : s.samp.invalidRun = 7) :
        exec (.readComplete w x y) s = .next bad.sensorEvent.arbitrate := by
      rw [hexec, hinvalid h, State.readDone_eighth (s := b) h7, hbad]
    have hnotIdle (h : running) : ¬ s.spin.state = .idle := fun hi => by
      simp only [running, hi] at h
      revert h
      decide
    refine ⟨fun h hit => ?_, fun h hit hidle hclear => ?_, fun h hit hno => ?_, fun h hit hrun => ?_, fun h hno => ?_,
      fun h h7 hidle => ?_, fun h h7 hrun => ?_⟩
    · rw [hexec, hvalid h, State.readDone_good (s := b) hit, hgood]
    · rw [hstrike h hit, State.strikeEvent, if_pos (by exact hidle), if_neg (by exact ne_true_of_eq_false hclear)]
      show Host.Outcome.next (giveReport (.fault (.strike (stored _ _).counter _ _ _)) _).arbitrate = _
      rw [hcounter]
      rfl
    · rw [hstrike h hit, State.strikeEvent]
      obtain ⟨hidle, hset⟩ | habort := hno
      · rw [if_pos (by exact hidle), if_pos (by exact hset)]
      · rw [if_neg (by show ¬ s.spin.state = .idle; rw [habort]; decide), State.abortOn_idle (by exact .inr habort)]
    · rw [hstrike h hit, State.strikeEvent, if_neg (by exact hnotIdle hrun), State.abortOn_running (by exact hrun)]
    · by_cases h7 : s.samp.invalidRun = 7
      · have habort := hno.resolve_left (not_not_intro h7)
        rw [heighth h h7, State.sensorEvent, if_neg (by show ¬ s.spin.state = .idle; rw [habort]; decide),
          State.abortOn_idle (by exact .inr habort)]
      · rw [hexec, hinvalid h, State.readDone_invalid (s := b) h7, hbad]
    · rw [heighth h h7, State.sensorEvent, if_pos (by exact hidle)]
      show Host.Outcome.next (giveReport (.fault (.sensor (stored _ _).counter (min 255 (s.samp.invalidRun + 1)))) bad).arbitrate = _
      rw [hcounter, h7]
      rfl
    · rw [heighth h h7, State.sensorEvent, if_neg (by exact hnotIdle hrun), State.abortOn_running (by exact hrun)]
  · rw [exec_readComplete]
    cases hr : s.samp.read with
    | none => rw [Option.map_none, State.whenDue_early (s.begin w) (t := none) rfl]
    | some r => rw [Option.map_some, State.whenDue_early (s.begin w) (t := some r.timer) (hearly r hr)]
  · refine ⟨fun h => ?_, fun h => ?_⟩
    · rw [State.scs, State.sck, h]
      exact ⟨rfl, rfl, fun n => by rw [State.sdo, h]; rfl⟩
    · have hbusy : s.samp.read.isNone = false := by
        obtain ⟨r, hr⟩ := Option.isSome_iff_exists.1 h
        rw [hr]
        rfl
      refine ⟨hbusy, ?_⟩
      unfold State.sdo
      rw [hbusy]
      decide

end Sys2Proof.Machine
end

section
/-! Standstill (R16, R132, R138; O47). -/

namespace Sys2Proof.Machine

section
variable (s : State)

/-- R16: the basket stands: what a standstill makes of the rotation and the sampler. -/
def State.stillBasket : State :=
  { s with
    rot := { s.rot with
      rev := none, window := none, pendingSlot := none, stopped := true, speed := 0, slotSpeed := 0, fallback := true
      standstill := none, lastEdge := none }
    samp :=
      { read := s.samp.read.map (fun r => { r with dest := .nowhere })
        conv := s.samp.conv.map (fun v => if v.dest = .pending then { v with dest := .nowhere } else v)
        invalidRun := 0, idleStrike := false } }

theorem State.stopBasket_eq : s.stopBasket = s.stillBasket := by
  have hread : ((s.samp.readFromPending .nowhere).readLost).read = s.samp.read.map (fun r => { r with dest := .nowhere }) := by
    unfold Sampler.readLost Sampler.readFromPending
    cases s.samp.read with
    | none => rfl
    | some r =>
      obtain ⟨timer, dest⟩ := r
      cases dest <;> rfl
  have hconv : (((s.samp.readFromPending .nowhere).readLost).convFromPending .nowhere).conv =
      s.samp.conv.map (fun v => if v.dest = .pending then { v with dest := .nowhere } else v) := by
    rw [Sampler.convFromPending_eq]
    rfl
  unfold State.stillBasket
  rw [← hread, ← hconv]
  rfl

theorem State.standstill_eq : s.standstill =
    if Config.speedTakenFirst s.draw = true then (s.stillBasket.speedChanged s.rot.speed).stoppedEvent
    else s.stillBasket.stoppedEvent.speedChanged s.rot.speed := by
  rw [State.standstill, s.stopBasket_eq]

variable {s}

/-- R150: with no planner order in flight the lowered speed changes nothing. -/
theorem State.speedChanged_unplanned (h : s.cham.plannerInFlight = false) (old : Nat) : s.speedChanged old = s := by
  refine State.speedChanged_keeps fun ⟨_, f, hf, ho⟩ => ?_
  rw [ChamberCtl.plannerInFlight_some hf, ho] at h
  exact nomatch h

/-- R132: with no planner order in flight the order of the two events plays no part. -/
theorem State.standstill_unplanned (h : s.cham.plannerInFlight = false)
    (hafter : s.stillBasket.stoppedEvent.cham.plannerInFlight = false) :
    s.standstill = s.stillBasket.stoppedEvent := by
  rw [State.standstill_eq, State.speedChanged_unplanned (by exact h), State.speedChanged_unplanned hafter]
  exact ite_self _

/-- R132, R138: an abort on a standing basket ends the session at once. -/
theorem State.enterAborting_stopped (h : s.rot.stopped = true) (c : Cause) :
    s.enterAborting c = (s.sessionClosed .aborting c false true).sessionEnded := by
  have hstopped : (s.sessionClosed .aborting c false true).rot.stopped = true :=
    (congrArg Rotation.stopped s.plateauLeft_frame.rot).trans h
  rw [State.enterAborting_eq, State.endedIfStopped, if_pos hstopped]

end

theorem exec_standstillExpiry (w : Wait) (s : State) : exec (.standstillExpiry w) s =
    .next ((s.begin w).whenDue s.rot.standstill State.standstill).arbitrate := exec_eq _ _

/-- R138: what is left of a session that a standstill aborted, the plan's fills among it. -/
structure StillAborted (s t : State) : Prop where
  state : t.spin.state = .idle
  lastEnd : t.spin.lastEnd = some .drive
  den : t.spin.den = false
  brk : t.spin.brk = false
  demand : t.spin.demand = 0
  flight : t.cham.flight = none
  queue : t.cham.queue = []
  latest : t.est.latest = none
  rot : t.rot = s.rot
  table : t.table = s.table
  weigh : t.weigh = s.weigh
  serv : t.serv = s.serv

theorem State.aborted_still {s : State} (hstopped : s.rot.stopped = true) (hweigh : s.spin.state ≠ .weighing)
    (hflight : s.plateauLeft.cham.flight = none) (hqueue : s.plateauLeft.cham.queue = []) :
    StillAborted s (s.enterAborting .drive) := by
  have hframe := s.plateauLeft_frame
  rw [State.enterAborting_stopped hstopped]
  exact ⟨rfl, rfl, rfl, rfl, rfl, hflight, hqueue, rfl, hframe.rot, hframe.table, if_neg hweigh, hframe.serv⟩

theorem State.endAll_queue {s : State} {f : Flight} (h : s.cham.flight = some f) (r : EndReason) :
    (s.endAll r).cham.queue = [] := by
  rw [s.endAll_cham h]
  rfl

/-- R132, R150: in BALANCING the fills are ended and the session aborted, whichever event is taken first. -/
theorem State.standstill_balancing {s : State} (hstate : s.spin.state = .balancing) {f : Flight}
    (hf : s.cham.flight = some f) : StillAborted s.stillBasket s.standstill := by
  have hevent {u : State} (h : u.spin.state = .balancing) : u.stoppedEvent = u.enterAborting .drive := by
    rw [State.stoppedEvent, h]
  have hleft {u : State} (h : u.spin.state = .balancing) : u.plateauLeft = u.endAll .stopped := if_pos h
  have hbase : StillAborted s.stillBasket (s.stillBasket.enterAborting .drive) := by
    refine State.aborted_still rfl (by show s.spin.state ≠ _; rw [hstate]; decide) ?_ ?_
    · rw [hleft (by exact hstate)]
      exact State.endAll_flight _ _
    · rw [hleft (by exact hstate)]
      exact State.endAll_queue (s := s.stillBasket) hf _
  rw [State.standstill_eq]
  by_cases hfirst : Config.speedTakenFirst s.draw = true
  · rw [if_pos hfirst]
    by_cases h : (∃ p, s.stillBasket.spin.params = some p ∧ p.holdSpeed ≤ s.rot.speed ∧ s.stillBasket.rot.speed < p.holdSpeed)
        ∧ ∃ g, s.stillBasket.cham.flight = some g ∧ g.order.origin = .planner
    · let u := (s.stillBasket.endAll .speed).fillEnd
      have hframe := s.stillBasket.endAll_frame .speed
      have hspin : (s.stillBasket.endAll .speed).spin = s.spin := hframe.spin
      have hu : u = giveReport _ ((s.stillBasket.endAll .speed).setSpin _) :=
        State.fillEnd_balancing (by rw [hspin]; exact hstate)
      have hsettling : u.spin.state = .settling := by rw [hu]; rfl
      have hcham : u.cham = (s.stillBasket.endAll .speed).cham := by rw [hu]; rfl
      have hleftu : u.plateauLeft = u := State.plateauLeft_elsewhere (by rw [hsettling]; decide)
      have habort := State.aborted_still (s := u) (by rw [hu]; exact congrArg Rotation.stopped hframe.rot)
        (by rw [hsettling]; decide) (by rw [hleftu, hcham]; exact State.endAll_flight _ _)
        (by rw [hleftu, hcham]; exact State.endAll_queue (s := s.stillBasket) hf _)
      have hrot : u.rot = s.stillBasket.rot := by rw [hu]; exact hframe.rot
      have htable : u.table = s.stillBasket.table := by rw [hu]; exact hframe.table
      have hweigh : u.weigh = s.stillBasket.weigh := by rw [hu]; exact hframe.weigh
      have hserv : u.serv = s.stillBasket.serv := by rw [hu]; exact hframe.serv
      rw [State.speedChanged_ends h.1 h.2, State.stoppedEvent, hsettling]
      exact ⟨habort.state, habort.lastEnd, habort.den, habort.brk, habort.demand, habort.flight, habort.queue,
        habort.latest, habort.rot.trans hrot, habort.table.trans htable, habort.weigh.trans hweigh,
        habort.serv.trans hserv⟩
    · rw [State.speedChanged_keeps h, hevent (by exact hstate)]
      exact hbase
  · rw [if_neg hfirst, hevent (by exact hstate), State.speedChanged_unplanned]
    · exact hbase
    · rw [ChamberCtl.plannerInFlight, hbase.flight]

/-- Settles O47. -/
theorem standstillStopsTheBasket : Obligations.StandstillStopsTheBasket := by
  unfold Obligations.StandstillStopsTheBasket
  intro w s b still due
  have hstill : b.stillBasket = still := rfl
  have hexec (h : due = true) : exec (.standstillExpiry w) s = .next b.standstill.arbitrate := by
    rw [exec_standstillExpiry, State.whenDue_due (s.begin w) h]
  have hunplanned (h : due = true) (hplan : s.cham.plannerInFlight = false) (hafter : still.stoppedEvent.cham = s.cham) :
      exec (.standstillExpiry w) s = .next still.stoppedEvent.arbitrate := by
    rw [hexec h, State.standstill_unplanned (by exact hplan) (by rw [hstill, hafter]; exact hplan), hstill]
  refine ⟨fun hearly => ?_, fun h hplan hstate => ?_, fun h hplan hstate => ?_, fun h hplan hstate => ?_,
    fun h hstate hf => ?_⟩
  · rw [exec_standstillExpiry, State.whenDue_early (s.begin w) hearly]
  · have hevent : still.stoppedEvent = still := by
      obtain hst | hst := hstate <;> rw [State.stoppedEvent, show still.spin.state = _ from hst]
    rw [hunplanned h hplan (by rw [hevent]; rfl), hevent]
  · have hevent : still.stoppedEvent = still.sessionEnded := by
      obtain hst | hst := hstate <;> rw [State.stoppedEvent, show still.spin.state = _ from hst, State.endSession_eq]
    rw [hunplanned h hplan (by rw [hevent]; rfl), hevent]
  · have hevent : still.stoppedEvent = still.enterAborting .drive := by
      rw [State.stoppedEvent]
      obtain hst | hst | hst := hstate
      · rw [show still.spin.state = _ from hst]
      · rw [show still.spin.state = _ from hst]
      · obtain hr | hr : s.spin.state = .ramping ∨ s.spin.state = .retreating := by simpa using hst
        · rw [show still.spin.state = _ from hr]
        · rw [show still.spin.state = _ from hr]
    have hne : still.spin.state ≠ .balancing := fun hb => by
      rw [show s.spin.state = .balancing from hb] at hstate
      revert hstate
      decide
    have hleft : still.plateauLeft = still := State.plateauLeft_elsewhere hne
    rw [hunplanned h hplan (by rw [hevent, State.enterAborting_cham, hleft]; rfl), hevent, State.enterAborting_stopped rfl]
  · obtain ⟨f, hf⟩ := Option.isSome_iff_exists.1 hf
    obtain ⟨h1, h2, h3, h4, h5, h6, h7, h8, h9, h10, h11, h12⟩ := State.standstill_balancing (s := b) hstate hf
    exact ⟨b.standstill, hexec h, h1, h2, h3, h4, h5, h6, h7, h8, h9, h10, h11, h12⟩

end Sys2Proof.Machine
end

section
/-! What a revolution record does in each spin state (R29 to R31, R119 to R125; O50, O51). -/

namespace Sys2Proof.Machine

/-! ## The watch (R124) -/

section
variable {p : Spin} {speed : Nat}

/-- R124: the watch step is the highest step whose speed is at or below the record's. -/
theorem Spin.watchStepBelow_iff (n x : Nat) : p.watchStepBelow speed n = some x ↔
    x < n ∧ p.speedOf x ≤ speed ∧ ∀ y, x < y → y < n → speed < p.speedOf y := by
  induction n with
  | zero => simp [Spin.watchStepBelow]
  | succ n ih =>
    unfold Spin.watchStepBelow
    by_cases h : p.speedOf n ≤ speed
    · rw [if_pos h, Option.some.injEq]
      refine ⟨fun hx => hx ▸ ⟨Nat.lt_succ_self n, h, fun y hy hy' => by omega⟩, fun ⟨hx, _, hall⟩ => ?_⟩
      refine Classical.byContradiction fun hne => ?_
      exact absurd (hall n (by omega) (Nat.lt_succ_self n)) (Nat.not_lt.2 h)
    · rw [if_neg h, ih]
      refine ⟨fun ⟨hx, hle, hall⟩ => ⟨by omega, hle, fun y hxy hy => ?_⟩, fun ⟨hx, hle, hall⟩ => ⟨?_, hle, fun y hxy hy => ?_⟩⟩
      · obtain hlt | rfl := Nat.lt_succ_iff_lt_or_eq.1 hy
        · exact hall y hxy hlt
        · exact Nat.not_le.1 h
      · obtain hlt | rfl := Nat.lt_succ_iff_lt_or_eq.1 hx
        · exact hlt
        · exact absurd hle h
      · exact hall y hxy (by omega)

/-- R124: the records that exceed the limit of their watch step. -/
theorem Spin.excess_iff (r : RevRecord) : p.excess r = true ↔
    ∃ c x, r.orbit = some c ∧ x < p.stepCount ∧ p.speedOf x ≤ r.speed
      ∧ (∀ y, x < y → y < p.stepCount → r.speed < p.speedOf y) ∧ p.limitOf x < mag c := by
  have hstep (x : Nat) : p.watchStep r.speed = some x ↔ _ := Spin.watchStepBelow_iff p.stepCount x
  unfold Spin.excess
  cases hc : r.orbit with
  | none => simp
  | some c =>
    cases hx : p.watchStep r.speed with
    | none =>
      simp only [Bool.false_eq_true, false_iff]
      rintro ⟨c', x, -, hlt, hle, hall, -⟩
      exact nomatch hx.symm.trans ((hstep x).2 ⟨hlt, hle, hall⟩)
    | some x =>
      simp only [decide_eq_true_eq]
      refine ⟨fun hlimit => ?_, ?_⟩
      · obtain ⟨hlt, hle, hall⟩ := (hstep x).1 hx
        exact ⟨c, x, rfl, hlt, hle, hall, hlimit⟩
      · rintro ⟨c', x', hc', hlt, hle, hall, hlimit⟩
        obtain rfl := Option.some.inj hc'
        obtain rfl := Option.some.inj (hx.symm.trans ((hstep x').2 ⟨hlt, hle, hall⟩))
        exact hlimit

end

/-! ## The ramp completion test (R119, R120) -/

theorem Spin.inBand_iff (p : Spin) (r : RevRecord) : p.inBand r = true ↔
    r.wellTimed = true ∧ p.speedOf (p.dest.getD 0) * 49 ≤ r.speed * 50
      ∧ r.speed * 50 ≤ p.speedOf (p.dest.getD 0) * 51 := by
  simp [Spin.inBand, and_assoc]

section
variable {s : State} {r : RevRecord}

theorem State.completionTest_out (h : ¬ s.spin.inBand r = true) :
    s.completionTest r = s.setSpin { s.spin with rampCount := 0 } := if_neg h

theorem State.completionTest_first (h : s.spin.inBand r = true) (hcount : s.spin.rampCount ≠ 1) :
    s.completionTest r = s.setSpin { s.spin with rampCount := s.spin.rampCount + 1 } := by
  have hno : ¬ s.spin.rampCount + 1 = 2 := fun he => hcount (by omega)
  rw [State.completionTest, if_pos h]
  exact if_neg hno

theorem State.completionTest_second (h : s.spin.inBand r = true) (hcount : s.spin.rampCount = 1) :
    s.completionTest r = giveReport
      (.state ⟨.settling, s.spin.state, .arrived, some (s.spin.dest.getD 0), none, none, s.spin.target, s.spin.ceiling,
        s.spin.demand⟩)
      (s.setSpin { s.spin with
        state := .settling, dwell := some (s.spin.dest.getD 0), dest := none, dir := none, rampTimer := none
        rampCount := 2, settle := 0 }) := by
  rw [State.completionTest, if_pos h]
  dsimp only
  rw [hcount]
  rfl

/-- R124: a record of a moving basket that the watch lets pass. -/
theorem State.takeRecord_moving (h : s.spin.state = .ramping ∨ s.spin.state = .retreating)
    (hwatch : ¬ (s.spin.state = .ramping ∧ s.spin.dir = some .up ∧ s.spin.excess r = true ∧ 0 < s.spin.dest.getD 0)) :
    s.takeRecord r = s.completionTest r := by
  obtain h | h := h
  · rw [State.takeRecord, h]
    exact if_neg fun hup => hwatch ⟨h, hup⟩
  · rw [State.takeRecord, h]

theorem State.takeRecord_settling (h : s.spin.state = .settling) : s.takeRecord r = s.settlingRecord r := by
  rw [State.takeRecord, h]

theorem State.takeRecord_balancing (h : s.spin.state = .balancing) : s.takeRecord r = s.balancingRecord r := by
  rw [State.takeRecord, h]

/-! ## A plan that the watch ends (R39, R40, R125) -/

/-- R39: an order that ends STOPPED or SPEED discards the pre-fill record. -/
theorem State.handDropped_discards (os : List Order) (h : s.est.preFill = none) :
    (s.handDropped .stopped os).est = s.est := by
  induction os generalizing s with
  | nil => rfl
  | cons o rest ih =>
    have hend : (s.handEnd o 0 .stopped).est = s.est := by
      rw [State.handEnd_eq]
      show (if o.origin = .planner then s.est.orderEnd o.chamber 0 .stopped else s.est) = s.est
      split
      · show { s.est with preFill := none } = s.est
        rw [← h]
      · rfl
    rw [State.handDropped, ih (by rw [hend]; exact h), hend]

theorem State.endAll_stopped_est {f : Flight} (hf : s.cham.flight = some f) (ho : f.order.origin = .planner) :
    (s.endAll .stopped).est = { s.est with preFill := none } := by
  rw [s.endAll_eq hf, State.handEnd_planner _ ho, State.handDropped_discards _ rfl]
  rfl

end

/-- Settles O50. -/
theorem recordsBySpinState : Obligations.RecordsBySpinState := by
  unfold Obligations.RecordsBySpinState
  intro s r p i j band excess moving watched counted
  have hexcess : p.excess r = true ↔ excess := Spin.excess_iff r
  have hband : p.inBand r = true ↔ band := p.inBand_iff r
  have hcounted : s.setSpin p.countRetreat = counted := by
    refine congrArg s.setSpin ?_
    unfold Spin.countRetreat
    split <;> rfl
  have hmoving (h : moving) (hw : ¬ watched) : s.takeRecord r = s.completionTest r :=
    State.takeRecord_moving h fun ⟨hst, hup, hex, hpos⟩ => hw ⟨hst, hup, hexcess.1 hex, hpos⟩
  refine ⟨fun h => ?_, fun ⟨hst, hup, hex, hpos⟩ => ?_, fun h hw hb => ?_, fun h hw hb hc => ?_, fun h hw hb hc => ?_,
    fun h hno => ?_, fun h hirr hfill => ?_, fun h hex => ?_, fun h hex hj hret => ?_, fun h hex hno => ?_⟩
  · have hclosing : p.state.isClosing = true ↔ p.state = .winddown ∨ p.state = .aborting := by
      simp
    rw [hclosing] at h
    obtain h | h | h := h <;> rw [State.takeRecord, show s.spin.state = _ from h]
  · rw [State.takeRecord, show s.spin.state = .ramping from hst, ← State.startRetreating_eq, ← hcounted]
    exact if_pos ⟨hup, hexcess.2 hex, hpos⟩
  · rw [hmoving h hw, State.completionTest_out fun hin => hb (hband.1 hin)]
  · rw [hmoving h hw, State.completionTest_first (hband.2 hb) hc]
  · rw [hmoving h hw, State.completionTest_second (hband.2 hb) hc]
  · rw [State.takeRecord_settling h]
    exact if_neg (by obtain h | h := hno <;> simp [h])
  · rw [State.takeRecord_settling h, State.settlingRecord, if_pos (by simp [hirr, hfill])]
    dsimp only [State.setSpin_spin]
    refine ite_congr rfl (fun _ => ?_) (fun _ => rfl)
    rw [show (SpinState.settling : SpinState) = s.spin.state from h.symm]
    rfl
  · rw [State.takeRecord_balancing h]
    exact if_neg fun hin => hex (hexcess.1 hin)
  · rw [State.takeRecord_balancing h, ← State.startRetreating_eq, ← hcounted]
    exact (if_pos (hexcess.2 hex)).trans (if_pos ⟨hj, hret⟩)
  · have hends : s.takeRecord r = giveReport
        (.state ⟨.settling, .balancing, .watch, p.dwell, p.dest, p.dir, p.target, p.ceiling, p.demand⟩)
        ((s.endAll .stopped).setSpin { p with state := .settling, settle := 0 }) := by
      have hno' : ¬ (0 < j ∧ p.retreats < p.par.maxRetreats) := by omega
      have hspin : (s.endAll .stopped).spin = s.spin := (s.endAll_frame _).spin
      rw [State.takeRecord_balancing h]
      refine (if_pos (hexcess.2 hex)).trans ((if_neg hno').trans ?_)
      rw [State.stopPlanFills]
      dsimp only
      rw [hspin]
      rw [show (SpinState.balancing : SpinState) = s.spin.state from h.symm]
      rfl
    refine ⟨hends, fun f hf ho => ?_⟩
    rw [hends, ← State.endAll_stopped_est hf ho]
    rfl

/-! ## The window (R29 to R31) -/

theorem sumPairs_eq (vs : List Pair) : sumPairs vs = ⟨(vs.map Pair.re).sum, (vs.map Pair.im).sum⟩ := by
  induction vs with
  | nil => rfl
  | cons p rest ih =>
    rw [sumPairs, ih, List.map_cons, List.map_cons, List.sum_cons, List.sum_cons]
    exact congr (congrArg Pair.mk (Int.add_comm _ _)) (Int.add_comm _ _)

theorem le_windowSpread (a : Pair) {vs : List Pair} {p : Pair} (h : p ∈ vs) :
    mag ⟨p.re - a.re, p.im - a.im⟩ ≤ windowSpread a vs := by
  induction vs with
  | nil => exact nomatch h
  | cons q rest ih =>
    obtain rfl | h := List.mem_cons.1 h
    · exact Nat.le_max_left _ _
    · exact Nat.le_trans (ih h) (Nat.le_max_right _ _)

theorem windowSpread_attained (a : Pair) {vs : List Pair} (h : vs ≠ []) :
    ∃ p ∈ vs, mag ⟨p.re - a.re, p.im - a.im⟩ = windowSpread a vs := by
  induction vs with
  | nil => exact absurd rfl h
  | cons q rest ih =>
    obtain hle | hle := Nat.le_total (windowSpread a rest) (mag ⟨q.re - a.re, q.im - a.im⟩)
    · exact ⟨q, List.mem_cons_self, (Nat.max_eq_left hle).symm⟩
    · cases rest with
      | nil => exact ⟨q, List.mem_cons_self, (Nat.max_eq_left (Nat.zero_le _)).symm⟩
      | cons p rest =>
        obtain ⟨x, hx, hmag⟩ := ih (List.cons_ne_nil _ _)
        exact ⟨x, List.mem_cons_of_mem q hx, hmag.trans (Nat.max_eq_right hle).symm⟩

section
variable {s : State} {newest : RevNum}

theorem State.windowStep_filling (h : s.est.window.length < s.spin.par.windowRevs) : s.windowStep newest = s := if_pos h

/-- R30, R31: a full window is steady, or slides, or is handed over unsteady. -/
theorem State.windowStep_full (h : s.spin.par.windowRevs ≤ s.est.window.length) :
    let a := windowAverage s.spin.par.windowRevs (s.est.window.map WindowEntry.orbit)
    let spread := windowSpread a (s.est.window.map WindowEntry.orbit)
    s.windowStep newest =
      if spread ≤ s.spin.par.spreadLimit then s.decisionEvent ⟨a, spread, true, newest⟩
      else if s.est.m < 3 * s.spin.par.windowRevs then s.setEst { s.est with window := s.est.window.drop 1 }
      else s.decisionEvent ⟨a, spread, false, newest⟩ := if_neg (Nat.not_lt.2 h)

end

/-- Settles O51. -/
theorem measuringRecordFillsTheWindow : Obligations.MeasuringRecordFillsTheWindow := by
  unfold Obligations.MeasuringRecordFillsTheWindow
  intro s r hstate n m counted admitted win joined a spread
  have hadmitted : r.admitted = true ↔ admitted := by
    simp [RevRecord.admitted, admitted, and_assoc]
  have htake : s.takeRecord r = s.measuringRecord r := by rw [State.takeRecord, hstate]
  have hjoin (h : admitted) : s.takeRecord r = joined.windowStep r.number := by
    rw [htake]
    exact if_pos (hadmitted.2 h)
  have hfull (hn : n ≤ win.length) : joined.windowStep r.number =
      if spread ≤ s.spin.par.spreadLimit then joined.decisionEvent ⟨a, spread, true, r.number⟩
      else if m < 3 * n then joined.setEst { joined.est with window := win.drop 1 }
      else joined.decisionEvent ⟨a, spread, false, r.number⟩ := State.windowStep_full (s := joined) hn
  refine ⟨fun h => ?_, fun h hn => ?_, fun h hn hs => ?_, fun h hn hs hm => ?_, fun h hn hs hm => ?_, fun hn => ?_,
    fun e he => ?_, ?_⟩
  · rw [htake]
    exact if_neg fun hin => h (hadmitted.1 hin)
  · rw [hjoin h, State.windowStep_filling hn]
  · rw [hjoin h, hfull hn, if_pos hs]
  · rw [hjoin h, hfull hn, if_neg (Nat.not_le.2 hs), if_pos hm]
    rfl
  · rw [hjoin h, hfull hn, if_neg (Nat.not_le.2 hs), if_neg (Nat.not_lt.2 hm)]
  · have hpos : 0 < n := by
      rw [← hn]
      simp [win]
    have ha : a = ⟨roundDiv (win.map (fun e => e.orbit.re)).sum n, roundDiv (win.map (fun e => e.orbit.im)).sum n⟩ := by
      show windowAverage n _ = _
      rw [windowAverage, sumPairs_eq, List.map_map, List.map_map]
      rfl
    rw [ha]
    exact ⟨isRounded_roundDiv _ hpos, isRounded_roundDiv _ hpos⟩
  · exact le_windowSpread a (List.mem_map_of_mem he)
  · obtain ⟨p, hp, hmag⟩ := windowSpread_attained a (vs := win.map (fun e => e.orbit)) (by simp [win])
    obtain ⟨e, he, rfl⟩ := List.mem_map.1 hp
    exact ⟨e, he, hmag⟩

end Sys2Proof.Machine
end

section
/-! The hold, the failing tests and the class of a weighing (R51 to R57; O57). -/

namespace Sys2Proof.Machine

/-! ## The judgement (R53, R54) -/

section
variable {w : Weigh}

/-- R53: ω1 and ω2, 0 where they were not reached. -/
def Weigh.v1 (w : Weigh) : Nat := (w.t1.map ClimbEdge.speed).getD 0
def Weigh.v2 (w : Weigh) : Nat := (w.t2.map ClimbEdge.speed).getD 0

/-- R53: the inertia that the measured means give. -/
def Weigh.measuredJ (w : Weigh) : Nat :=
  (w.accSum / w.nAcc - w.holdSum / w.nHold) * w.dt.getD 0 * 626 / (65536 * (w.v2 - w.v1))

theorem Weigh.judge_saturated (h : w.saturated = true) : w.judge = .error .saturated := if_pos h

section
variable (hsat : ¬ w.saturated = true)
include hsat

theorem Weigh.judge_empty (h : w.nAcc = 0 ∨ w.nHold = 0) : w.judge = .error .torque := by
  rw [Weigh.judge, if_neg hsat]
  exact if_pos h

variable (hcount : ¬ (w.nAcc = 0 ∨ w.nHold = 0))
include hcount

theorem Weigh.judge_speed (h : w.v2 ≤ w.v1) : w.judge = .error .speed := by
  rw [Weigh.judge, if_neg hsat, if_neg hcount]
  exact if_pos h

variable (hspeed : ¬ w.v2 ≤ w.v1)
include hspeed

theorem Weigh.judge_time (h : w.dt.getD 0 < 200 ∨ 10000 < w.dt.getD 0) : w.judge = .error .time := by
  rw [Weigh.judge, if_neg hsat, if_neg hcount]
  exact (if_neg hspeed).trans (if_pos h)

variable (htime : ¬ (w.dt.getD 0 < 200 ∨ 10000 < w.dt.getD 0))
include htime

theorem Weigh.judge_torque (h : w.accSum / w.nAcc ≤ w.holdSum / w.nHold) : w.judge = .error .torque := by
  rw [Weigh.judge, if_neg hsat, if_neg hcount]
  exact (if_neg hspeed).trans ((if_neg htime).trans (if_pos h))

theorem Weigh.judge_weighed (h : ¬ w.accSum / w.nAcc ≤ w.holdSum / w.nHold) : w.judge = .ok w.measuredJ := by
  rw [Weigh.judge, if_neg hsat, if_neg hcount]
  exact (if_neg hspeed).trans ((if_neg htime).trans (if_neg h))

end

/-- The weighing fails or gives the inertia its means give. -/
theorem Weigh.judge_cases (w : Weigh) : (∃ why, w.judge = .error why) ∨ w.judge = .ok w.measuredJ := by
  by_cases hsat : w.saturated = true
  · exact .inl ⟨_, Weigh.judge_saturated hsat⟩
  by_cases hcount : w.nAcc = 0 ∨ w.nHold = 0
  · exact .inl ⟨_, Weigh.judge_empty hsat hcount⟩
  by_cases hspeed : w.v2 ≤ w.v1
  · exact .inl ⟨_, Weigh.judge_speed hsat hcount hspeed⟩
  by_cases htime : w.dt.getD 0 < 200 ∨ 10000 < w.dt.getD 0
  · exact .inl ⟨_, Weigh.judge_time hsat hcount hspeed htime⟩
  by_cases htorque : w.accSum / w.nAcc ≤ w.holdSum / w.nHold
  · exact .inl ⟨_, Weigh.judge_torque hsat hcount hspeed htime htorque⟩
  · exact .inr (Weigh.judge_weighed hsat hcount hspeed htime htorque)

theorem Weigh.complete_fails (p : Params) {why : WeighFail} (h : w.judge = .error why) :
    w.complete p = (w.close (.failed why), w.report 3 (some why) none w.tHold) := by
  rw [Weigh.complete, h]

theorem Weigh.complete_weighs (p : Params) {j : Nat} (h : w.judge = .ok j) : w.complete p =
    (w.close (.weighed (classOf p (j - p.basketInertia)) (j - p.basketInertia)),
      w.report (classOf p (j - p.basketInertia)) none (some (j - p.basketInertia, j)) w.tHold) := by
  rw [Weigh.complete, h]

theorem Weigh.tHold_eq (w : Weigh) :
    w.tHold = if w.nHold ≠ 0 then some ⟨w.holdSum / w.nHold, w.nHold⟩ else none := by
  rw [Weigh.tHold, meanOf, ite_not]

end

/-- R55: the class between the thresholds. -/
theorem classOf_iff {p : Params} (h12 : p.threshold1 < p.threshold2) (h23 : p.threshold2 < p.threshold3) (load : Nat) :
    (classOf p load = 0 ↔ load < p.threshold1)
    ∧ (classOf p load = 1 ↔ p.threshold1 ≤ load ∧ load < p.threshold2)
    ∧ (classOf p load = 2 ↔ p.threshold2 ≤ load ∧ load < p.threshold3)
    ∧ (classOf p load = 3 ↔ p.threshold3 ≤ load) := by
  unfold classOf
  split
  · simp; omega
  split
  · simp; omega
  split <;> simp <;> omega

/-! ## The hold (R51, R52) -/

theorem stableForWeighing_iff (p : Params) (r : RevRecord) : stableForWeighing p r = true ↔
    r.wellTimed = true ∧ p.weighHigh * 49 ≤ r.speed * 50 ∧ r.speed * 50 ≤ p.weighHigh * 51 := by
  simp [stableForWeighing, and_assoc]

theorem Weigh.takeRecord_steadying {w : Weigh} (h : w.phase = .steadying) (p : Params) (r : RevRecord) :
    w.takeRecord p r =
      if stableForWeighing p r = true then
        if w.stable + 1 = 2 then { w with stable := 2, phase := .holding, holdSum := 0, nHold := 0, holdRevs := 0 }
        else { w with stable := w.stable + 1 }
      else { w with stable := 0 } := by
  rw [Weigh.takeRecord, h]

theorem Weigh.takeRecord_holding {w : Weigh} (h : w.phase = .holding) (p : Params) (r : RevRecord) :
    w.takeRecord p r =
      if stableForWeighing p r = true then { w with holdRevs := w.holdRevs + 1 }
      else { w with phase := .steadying, stable := 0, holdSum := 0, nHold := 0, holdRevs := 0 } := by
  rw [Weigh.takeRecord, h]

theorem Weigh.isComplete_iff (w : Weigh) : w.isComplete = true ↔ w.phase = .holding ∧ w.holdRevs = 4 := by
  simp [Weigh.isComplete]

/-- Settles O57. -/
theorem weighingHoldAndClass : Obligations.WeighingHoldAndClass := by
  unfold Obligations.WeighingHoldAndClass
  refine ⟨fun p w r => ?_, fun s r hstate => ?_⟩
  · intro stable t v1 v2 dt tA tH full empty slow off done
    have hstable : stableForWeighing p r = true ↔ stable := stableForWeighing_iff p r
    have fails {why : WeighFail} (h : w.judge = .error why) : done.1.result = .failed why := by
      rw [show done = w.complete p from rfl, Weigh.complete_fails p h]
      rfl
    refine ⟨fun h hs hc => ?_, fun h hs hc => ?_, fun h hs => ?_, fun h hs => ?_, fun h hs => ?_,
      fun h => fails (Weigh.judge_saturated h), fun h he => fails (Weigh.judge_empty h he),
      fun h he hv => fails (Weigh.judge_speed h he hv), fun h he hv ht => fails (Weigh.judge_time h he hv ht),
      fun h he hv ht hT => fails (Weigh.judge_torque h he hv ht hT), fun h he hv ht hT => ?_, ?_, ?_⟩
    · exact (Weigh.takeRecord_steadying h p r).trans ((if_pos (hstable.2 hs)).trans (if_neg fun h2 => hc (by omega)))
    · exact (Weigh.takeRecord_steadying h p r).trans ((if_pos (hstable.2 hs)).trans (if_pos (by omega)))
    · exact (Weigh.takeRecord_steadying h p r).trans (if_neg fun hin => hs (hstable.1 hin))
    · exact (Weigh.takeRecord_holding h p r).trans (if_pos (hstable.2 hs))
    · exact (Weigh.takeRecord_holding h p r).trans (if_neg fun hin => hs (hstable.1 hin))
    · have hjudge := Weigh.judge_weighed h he hv ht (Nat.not_le.2 hT)
      refine ⟨classOf p (w.measuredJ - p.basketInertia), ?_, fun h12 h23 => classOf_iff h12 h23 _⟩
      rw [show done = w.complete p from rfl, Weigh.complete_weighs p hjudge]
      rfl
    · obtain ⟨why, h⟩ | h := w.judge_cases
      · rw [show done = w.complete p from rfl, Weigh.complete_fails p h]
        rfl
      · rw [show done = w.complete p from rfl, Weigh.complete_weighs p h]
        rfl
    · rw [← Weigh.tAcc_eq, ← Weigh.tHold_eq, ← Weigh.dt_eq]
      obtain ⟨why, h⟩ | h := w.judge_cases
      · rw [show done = w.complete p from rfl, Weigh.complete_fails p h]
        rfl
      · rw [show done = w.complete p from rfl, Weigh.complete_weighs p h]
        rfl
  · intro p w done
    have htake : s.takeRecord r = if w.isComplete = true then (s.setWeigh w).endWeighing done else s.setWeigh w := by
      rw [State.takeRecord, hstate]
      rfl
    refine ⟨fun hno => ?_, fun hphase hrevs => ?_⟩
    · rw [htake, if_neg fun h => hno (w.isComplete_iff.1 h)]
    · rw [htake, if_pos (w.isComplete_iff.2 ⟨hphase, hrevs⟩), State.endWeighing_eq (by exact hstate)]
      rfl

end Sys2Proof.Machine
end

section
/-! The octets of a trace record read back (R197, 11.7; O59). -/

namespace Sys2Proof.Machine

/-! ## The fields of 13 and 10 bits -/

/-- A two's complement number of `n` bits read back. -/
def signedOf (n v : Nat) : Int := if v < 2 ^ (n - 1) then (v : Int) else (v : Int) - 2 ^ n

theorem twosField_lt (n : Nat) (v : Int) : twosField n v < 2 ^ n := BitVec.isLt _

theorem signedOf_twosField13 {v : Int} (h : v.natAbs ≤ 2895) : signedOf 13 (twosField 13 v) = v := by
  rw [signedOf, twosField, BitVec.toNat_ofInt]
  split <;> omega

theorem signedOf_twosField10 {v : Int} (h : v.natAbs ≤ 511) : signedOf 10 (twosField 10 v) = v := by
  rw [signedOf, twosField, BitVec.toNat_ofInt]
  split <;> omega

/-! ## The octets -/

section
variable (r : TraceRecord)

theorem u16_eq (n : Nat) : u16 n = [u8 (n / 256), u8 n] := rfl

/-- Octets 0 to 8 of both forms. -/
theorem TraceRecord.head_eq : r.head =
    [u8 (r.number.toNat / 16777216), u8 (r.number.toNat / 65536), u8 (r.number.toNat / 256), u8 r.number.toNat,
      u8 ((r.dwell.getD 15 * 4096 + r.speed) / 256), u8 (r.dwell.getD 15 * 4096 + r.speed),
      u8 ((r.state.code * 8192 + (if r.irregular then 4096 else 0) + r.peak) / 256),
      u8 (r.state.code * 8192 + (if r.irregular then 4096 else 0) + r.peak), u8 r.gap] := by
  rw [TraceRecord.head, u32_eq, u16_eq, u16_eq]
  rfl

theorem TraceRecord.octets_head : ∃ tail, r.octets = r.head ++ tail := by
  unfold TraceRecord.octets
  split
  · exact ⟨_, rfl⟩
  · exact ⟨_, List.append_assoc _ _ _⟩

/-- An octet of the head of either form. -/
theorem TraceRecord.octets_getD {i : Nat} (h : i < 9) : r.octets.getD i 0 = r.head.getD i 0 := by
  obtain ⟨tail, htail⟩ := r.octets_head
  have hlen : i < r.head.length := by rw [r.head_eq]; exact h
  rw [htail, List.getD_eq_getElem?_getD, List.getD_eq_getElem?_getD, List.getElem?_append_left hlen]

variable {r}

theorem TraceRecord.octets_irregular (h : r.irregular = true) : r.octets = r.head ++
    [u8 ((if r.ramping then 128 else 0) + (if r.filling then 64 else 0) + r.slots)] := if_pos h

/-- The 48-bit field of the regular form. -/
def TraceRecord.field (r : TraceRecord) : Nat :=
  r.regularField (r.orbit.getD (⟨0, 0⟩, ⟨0, 0⟩)).1 (r.orbit.getD (⟨0, 0⟩, ⟨0, 0⟩)).2

theorem TraceRecord.octets_regular (h : r.irregular = false) : r.octets = r.head ++
    [u8 (r.field / 2 ^ 40), u8 (r.field / 2 ^ 32), u8 (r.field / 2 ^ 24), u8 (r.field / 2 ^ 16), u8 (r.field / 256),
      u8 r.field] := by
  have hregular : r.octets = r.head ++ [u8 (r.field / 2 ^ 40), u8 (r.field / 2 ^ 32)] ++ u32 r.field :=
    if_neg (ne_true_of_eq_false h)
  rw [hregular, u32_eq, List.append_assoc]
  rfl

theorem TraceRecord.octets_length : r.octets.length = if r.irregular = true then 10 else 15 := by
  cases h : r.irregular with
  | true =>
    rw [TraceRecord.octets_irregular h, r.head_eq]
    rfl
  | false =>
    rw [TraceRecord.octets_regular h, r.head_eq]
    rfl

/-- The parts of the 48-bit field. -/
theorem TraceRecord.field_parts (r : TraceRecord) (c m : Pair) :
    (r.regularField c m / 2 ^ 47 = if r.ramping then 1 else 0)
    ∧ (r.regularField c m / 2 ^ 46 % 2 = if r.filling then 1 else 0)
    ∧ r.regularField c m / 2 ^ 33 % 2 ^ 13 = twosField 13 c.re
    ∧ r.regularField c m / 2 ^ 20 % 2 ^ 13 = twosField 13 c.im
    ∧ r.regularField c m / 2 ^ 10 % 2 ^ 10 = twosField 10 (saturate (-511) 511 m.re)
    ∧ r.regularField c m % 2 ^ 10 = twosField 10 (saturate (-511) 511 m.im) := by
  have h1 := twosField_lt 13 c.re
  have h2 := twosField_lt 13 c.im
  have h3 := twosField_lt 10 (saturate (-511) 511 m.re)
  have h4 := twosField_lt 10 (saturate (-511) 511 m.im)
  unfold TraceRecord.regularField
  generalize twosField 13 c.re = a at *
  generalize twosField 13 c.im = b at *
  generalize twosField 10 (saturate (-511) 511 m.re) = d at *
  generalize twosField 10 (saturate (-511) 511 m.im) = e at *
  cases r.ramping <;> cases r.filling <;> simp <;> omega

end

section
variable {r : TraceRecord}

/-- The value of an octet of the record. -/
def TraceRecord.at (r : TraceRecord) (i : Nat) : Nat := (r.octets.getD i 0).toNat

theorem TraceRecord.at_head {i : Nat} (h : i < 9) : r.at i = (r.head.getD i 0).toNat :=
  congrArg BitVec.toNat (r.octets_getD h)

theorem TraceRecord.at_tail {tail : List Octet} (h : r.octets = r.head ++ tail) (i : Nat) :
    r.at (9 + i) = (tail.getD i 0).toNat := by
  have hlen : r.head.length = 9 := by rw [r.head_eq]; rfl
  rw [TraceRecord.at, h, List.getD_eq_getElem?_getD, List.getD_eq_getElem?_getD,
    List.getElem?_append_right (by omega), hlen, Nat.add_sub_cancel_left]

theorem TraceRecord.at_number :
    ((r.at 0 * 256 + r.at 1) * 256 + r.at 2) * 256 + r.at 3 = r.number.toNat := by
  have hlt := r.number.isLt
  rw [TraceRecord.at_head (by omega), TraceRecord.at_head (by omega), TraceRecord.at_head (by omega),
    TraceRecord.at_head (by omega), r.head_eq]
  show ((((u8 _).toNat * 256 + (u8 _).toNat) * 256 + (u8 _).toNat) * 256 + (u8 _).toNat) = _
  rw [u8_toNat, u8_toNat, u8_toNat, u8_toNat]
  omega

theorem TraceRecord.at_speed (hd : ∀ d ∈ r.dwell, d ≤ 11) (hs : r.speed ≤ 4000) :
    r.at 4 / 16 = r.dwell.getD 15 ∧ r.at 4 % 16 * 256 + r.at 5 = r.speed := by
  have hdwell : r.dwell.getD 15 ≤ 15 := by
    cases hr : r.dwell with
    | none => exact Nat.le_refl _
    | some d => exact Nat.le_trans (hd d hr) (by omega)
  rw [TraceRecord.at_head (by omega), TraceRecord.at_head (by omega), r.head_eq]
  show (u8 _).toNat / 16 = _ ∧ (u8 _).toNat % 16 * 256 + (u8 _).toNat = _
  rw [u8_toNat, u8_toNat]
  omega

theorem TraceRecord.at_state (hstate : r.state ≠ .idle) (hp : r.peak < 4096) :
    r.at 6 / 32 = r.state.code ∧ (r.at 6 / 16 % 2 = 1 ↔ r.irregular = true)
      ∧ r.at 6 % 16 * 256 + r.at 7 = r.peak := by
  have hcode : r.state.code ≤ 7 := by
    revert hstate
    cases r.state <;> simp [SpinState.code]
  rw [TraceRecord.at_head (by omega), TraceRecord.at_head (by omega), r.head_eq]
  show (u8 _).toNat / 32 = _ ∧ ((u8 _).toNat / 16 % 2 = 1 ↔ _) ∧ (u8 _).toNat % 16 * 256 + (u8 _).toNat = _
  rw [u8_toNat, u8_toNat]
  cases r.irregular <;> simp <;> omega

theorem TraceRecord.at_gap (h : r.gap ≤ 255) : r.at 8 = r.gap := by
  rw [TraceRecord.at_head (by omega), r.head_eq]
  exact u8_toNat_lt (by omega)

theorem TraceRecord.at_irregular (h : r.irregular = true) (hslots : r.slots < 64) :
    r.at 9 = (if r.ramping then 128 else 0) + (if r.filling then 64 else 0) + r.slots := by
  rw [TraceRecord.at_tail (TraceRecord.octets_irregular h) 0]
  refine u8_toNat_lt ?_
  (repeat' split) <;> omega

theorem TraceRecord.field_lt : r.field < 2 ^ 48 := by
  obtain ⟨hramping, -⟩ := r.field_parts (r.orbit.getD (⟨0, 0⟩, ⟨0, 0⟩)).1 (r.orbit.getD (⟨0, 0⟩, ⟨0, 0⟩)).2
  have hle : r.field / 2 ^ 47 ≤ 1 := Nat.le_trans (Nat.le_of_eq hramping) (by split <;> omega)
  omega

/-- The six octets of the regular form's field. -/
theorem TraceRecord.at_field (h : r.irregular = false) :
    ((r.at 9 * 256 + r.at 10) * 256 + r.at 11) * 16777216 + (r.at 12 * 256 + r.at 13) * 256 + r.at 14 = r.field
      ∧ r.at 9 = r.field / 2 ^ 40 := by
  have hlt := r.field_lt
  have hat := TraceRecord.at_tail (TraceRecord.octets_regular h)
  rw [hat 0, hat 1, hat 2, hat 3, hat 4, hat 5]
  show (((u8 _).toNat * 256 + (u8 _).toNat) * 256 + (u8 _).toNat) * 16777216 + ((u8 _).toNat * 256 + (u8 _).toNat) * 256
    + (u8 _).toNat = _ ∧ (u8 _).toNat = _
  rw [u8_toNat, u8_toNat, u8_toNat, u8_toNat, u8_toNat, u8_toNat]
  omega

theorem saturate511 (v : Int) : (saturate (-511) 511 v).natAbs ≤ 511 := by
  rw [saturate_eq (by decide)]
  omega

theorem traceOctets_length {rs : List TraceRecord} (h : ∀ x ∈ rs, x.irregular = false) :
    (traceOctets rs).length = 15 * rs.length := by
  induction rs with
  | nil => rfl
  | cons x rest ih =>
    rw [traceOctets, List.length_append, TraceRecord.octets_length, h x List.mem_cons_self,
      ih fun y hy => h y (List.mem_cons_of_mem x hy), List.length_cons]
    simp
    omega

end

/-- Settles O59. -/
theorem traceRecordForms : Obligations.TraceRecordForms := by
  unfold Obligations.TraceRecordForms
  intro r at' field signed
  obtain ⟨hramping, hfilling, hre, him, hx, hy⟩ :=
    r.field_parts (r.orbit.getD (⟨0, 0⟩, ⟨0, 0⟩)).1 (r.orbit.getD (⟨0, 0⟩, ⟨0, 0⟩)).2
  have hlength : r.frame.lengthOctet = u8 (r.octets.length + 2) := rfl
  refine ⟨fun h => ?_, fun h => ?_, rfl, rfl, rfl, TraceRecord.at_number, TraceRecord.at_speed, fun hs hp => ?_,
    TraceRecord.at_gap, fun h hslots => ?_, fun h => ?_, fun c m h horbit hc hm => ?_, fun rs h => traceOctets_length h⟩
  · rw [hlength, TraceRecord.octets_length, h]
    exact ⟨rfl, rfl⟩
  · rw [hlength, TraceRecord.octets_length, h]
    refine ⟨rfl, rfl, fun hslots => ?_⟩
    have hat : at' 9 = _ := TraceRecord.at_irregular h hslots
    rw [hat]
    (repeat' split) <;> omega
  · obtain ⟨hcode, hirr, hpeak⟩ := TraceRecord.at_state hs hp
    refine ⟨?_, hirr, hpeak⟩
    rw [show at' 6 = r.at 6 from rfl, hcode]
    cases r.state <;> rfl
  · have hat : at' 9 = _ := TraceRecord.at_irregular h hslots
    rw [hat]
    cases r.ramping <;> cases r.filling <;> simp <;> omega
  · have hat : at' 9 = r.field / 2 ^ 40 := (TraceRecord.at_field h).2
    have h1 : r.field / 2 ^ 47 = _ := hramping
    have h2 : r.field / 2 ^ 46 % 2 = _ := hfilling
    rw [hat]
    cases hr : r.ramping <;> cases hf : r.filling <;> simp only [hr, hf] at h1 h2 <;> simp at h1 h2 ⊢ <;> omega
  · have hfield : field = r.field := (TraceRecord.at_field h).1
    have hcm : r.field = r.regularField c m := by rw [TraceRecord.field, horbit]; rfl
    rw [horbit] at hre him hx hy
    rw [hfield, hcm]
    refine ⟨?_, ?_, ?_, ?_⟩
    · exact (congrArg (signedOf 13) hre).trans (signedOf_twosField13 hc)
    · exact (congrArg (signedOf 13) him).trans (signedOf_twosField13 hm)
    · exact (congrArg (signedOf 10) hx).trans ((signedOf_twosField10 (saturate511 _)).trans (saturate_eq (by decide) _))
    · exact (congrArg (signedOf 10) hy).trans ((signedOf_twosField10 (saturate511 _)).trans (saturate_eq (by decide) _))

end Sys2Proof.Machine
end

section
/-! The planner: the amounts and the order of a plan's orders (R157, R158; O56). -/

namespace Sys2Proof.Machine

/-! ## The order of the orders (R158, step 4) -/

/-- R158: larger amounts first, the lower chamber first when two are equal. -/
def Order.Before (a b : Order) : Prop :=
  a.chamber ≠ b.chamber ∧ (b.amount < a.amount ∨ (b.amount = a.amount ∧ a.chamber < b.chamber))

theorem insertOrder_sorted {o : Order} {os : List Order} (h : os.Pairwise Order.Before)
    (hlow : ∀ q ∈ os, q.chamber < o.chamber) : (insertOrder o os).Pairwise Order.Before := by
  induction os with
  | nil => exact List.pairwise_singleton _ _
  | cons q rest ih =>
    obtain ⟨hq, hrest⟩ := List.pairwise_cons.1 h
    have hqo := hlow q List.mem_cons_self
    have hlow' (x : Order) (hx : x ∈ rest) := hlow x (List.mem_cons_of_mem q hx)
    rw [insertOrder]
    by_cases hlt : q.amount < o.amount
    · rw [if_pos hlt]
      refine List.pairwise_cons.2 ⟨fun x hx => ?_, h⟩
      have hxo := hlow x hx
      refine ⟨(Fin.ne_of_lt hxo).symm, .inl ?_⟩
      obtain rfl | hx := List.mem_cons.1 hx
      · exact hlt
      · obtain ⟨-, hlt' | ⟨heq, -⟩⟩ := hq x hx <;> omega
    · rw [if_neg hlt]
      refine List.pairwise_cons.2 ⟨fun x hx => ?_, ih hrest hlow'⟩
      obtain rfl | hx := List.mem_cons.1 ((insertOrder_perm o rest).mem_iff.1 hx)
      · exact ⟨Fin.ne_of_lt hqo, (Nat.lt_or_eq_of_le (Nat.not_lt.1 hlt)).imp id fun heq => ⟨heq, hqo⟩⟩
      · exact hq x hx

theorem foldl_insertOrder_sorted (os acc : List Order) (h : acc.Pairwise Order.Before)
    (hos : os.Pairwise (fun a b => a.chamber < b.chamber)) (hlow : ∀ q ∈ acc, ∀ o ∈ os, q.chamber < o.chamber) :
    (os.foldl (fun acc o => insertOrder o acc) acc).Pairwise Order.Before := by
  induction os generalizing acc with
  | nil => exact h
  | cons o rest ih =>
    obtain ⟨ho, hrest⟩ := List.pairwise_cons.1 hos
    refine ih _ (insertOrder_sorted h fun q hq => hlow q hq o List.mem_cons_self) hrest fun q hq x hx => ?_
    obtain rfl | hq := List.mem_cons.1 ((insertOrder_perm o acc).mem_iff.1 hq)
    · exact ho x hx
    · exact hlow q hq x (List.mem_cons_of_mem o hx)

theorem sortOrders_sorted {os : List Order} (h : os.Pairwise (fun a b => a.chamber < b.chamber)) :
    (sortOrders os).Pairwise Order.Before :=
  foldl_insertOrder_sorted os [] List.Pairwise.nil h nofun

/-! ## The amounts (R157, R158) -/

theorem scaleAmount_le {limit sum f : Nat} : scaleAmount limit sum f ≤ f := by
  unfold scaleAmount
  split
  next h => exact Nat.div_le_of_le_mul (Nat.mul_comm sum f ▸ Nat.mul_le_mul_left f (Nat.le_of_lt h))
  next => exact Nat.le_refl f

/-- R158, step 2: the scaled amounts stay within plan_limit. -/
theorem scaleAmount_sum_le (limit a b c d : Nat) :
    scaleAmount limit (a + b + c + d) a + scaleAmount limit (a + b + c + d) b + scaleAmount limit (a + b + c + d) c
      + scaleAmount limit (a + b + c + d) d ≤ limit := by
  unfold scaleAmount
  by_cases h : limit < a + b + c + d
  · simp only [if_pos h]
    have hsum : (a * limit + b * limit + c * limit + d * limit) / (a + b + c + d) = limit := by
      rw [← Nat.add_mul, ← Nat.add_mul, ← Nat.add_mul]
      exact Nat.mul_div_cancel_left _ (by omega)
    calc a * limit / (a + b + c + d) + b * limit / (a + b + c + d) + c * limit / (a + b + c + d)
          + d * limit / (a + b + c + d)
        ≤ (a * limit + b * limit + c * limit + d * limit) / (a + b + c + d) :=
          Nat.le_trans (Nat.add_le_add_right (Nat.le_trans (Nat.add_le_add_right Nat.div_add_div_le_add_div _)
            Nat.div_add_div_le_add_div) _) Nat.div_add_div_le_add_div
      _ = limit := hsum
  · simp only [if_neg h]
    exact Nat.not_lt.1 h

section
variable (s : State) (u : Pair)

/-- R157: the amount for a chamber, clamped to its room. -/
def State.planFill (c : Fin 4) : Nat := min (rawAmounts s.spin.par.ringOffset u)[c] (s.planRoom c)

/-- R158, step 2: the amount for a chamber, scaled. -/
def State.planAmount (c : Fin 4) : Nat :=
  scaleAmount s.spin.par.planLimit (s.planFill u 0 + s.planFill u 1 + s.planFill u 2 + s.planFill u 3) (s.planFill u c)

/-- R158, step 3: the order for a chamber, when there is one. -/
def State.planOrder (c : Fin 4) : Option Order :=
  if s.planAmount u c < s.spin.par.minFill ∨ s.planAmount u c = 0 then none else some ⟨c, s.planAmount u c, .planner⟩

theorem State.plan_eq : s.plan u = sortOrders (([0, 1, 2, 3] : List (Fin 4)).filterMap (s.planOrder u)) := rfl

theorem State.planOrder_some {c : Fin 4} {o : Order} : s.planOrder u c = some o ↔
    o = ⟨c, s.planAmount u c, .planner⟩ ∧ s.spin.par.minFill ≤ s.planAmount u c ∧ 0 < s.planAmount u c := by
  unfold State.planOrder
  split
  next h =>
    simp only [reduceCtorEq, false_iff]
    omega
  next h =>
    rw [Option.some.injEq, eq_comm]
    exact ⟨fun he => ⟨he, by omega, by omega⟩, fun he => he.1⟩

theorem State.mem_plan_iff (o : Order) : o ∈ s.plan u ↔
    o = ⟨o.chamber, s.planAmount u o.chamber, .planner⟩ ∧ s.spin.par.minFill ≤ o.amount ∧ 0 < o.amount := by
  have hall : ∀ c : Fin 4, c ∈ ([0, 1, 2, 3] : List (Fin 4)) := by decide
  rw [State.plan_eq, (sortOrders_perm _).mem_iff, List.mem_filterMap]
  refine ⟨fun ⟨c, _, h⟩ => ?_, fun ⟨ho, hmin, hpos⟩ => ⟨o.chamber, hall _, ?_⟩⟩
  · obtain ⟨rfl, hmin, hpos⟩ := (s.planOrder_some u).1 h
    exact ⟨rfl, hmin, hpos⟩
  · rw [ho] at hmin hpos
    exact (s.planOrder_some u).2 ⟨ho, hmin, hpos⟩

theorem State.planOrder_chambers : (([0, 1, 2, 3] : List (Fin 4)).filterMap (s.planOrder u)).Pairwise
    (fun a b => a.chamber < b.chamber) := by
  have hincreasing : ([0, 1, 2, 3] : List (Fin 4)).Pairwise (· < ·) := by decide
  refine hincreasing.filterMap _ fun c d hcd a ha b hb => ?_
  obtain ⟨rfl, -⟩ := (s.planOrder_some u).1 ha
  obtain ⟨rfl, -⟩ := (s.planOrder_some u).1 hb
  exact hcd

theorem State.planAmount_le (c : Fin 4) : s.planAmount u c ≤ s.planRoom c :=
  Nat.le_trans scaleAmount_le (Nat.min_le_right _ _)

theorem State.planAmount_raw (c : Fin 4) : s.planAmount u c ≤ (rawAmounts s.spin.par.ringOffset u)[c] :=
  Nat.le_trans scaleAmount_le (Nat.min_le_left _ _)

end

theorem rawAmounts_get (delta : Nat) (u : Pair) (c : Fin 4) :
    (rawAmounts delta u)[c] = if c = 0 then (rotateBack delta ⟨-u.re, -u.im⟩).re.toNat
      else if c = 1 then (rotateBack delta ⟨-u.re, -u.im⟩).im.toNat
      else if c = 2 then (-(rotateBack delta ⟨-u.re, -u.im⟩).re).toNat
      else (-(rotateBack delta ⟨-u.re, -u.im⟩).im).toNat := by
  match c with
  | 0 | 1 | 2 | 3 => rfl

/-- R157: of two opposite chambers at most one is given an amount. -/
theorem rawAmounts_opposite (delta : Nat) (u : Pair) :
    ((rawAmounts delta u)[(0 : Fin 4)] = 0 ∨ (rawAmounts delta u)[(2 : Fin 4)] = 0)
      ∧ ((rawAmounts delta u)[(1 : Fin 4)] = 0 ∨ (rawAmounts delta u)[(3 : Fin 4)] = 0) := by
  have opposite (v : Int) : v.toNat = 0 ∨ (-v).toNat = 0 := by omega
  exact ⟨opposite (rotateBack delta ⟨-u.re, -u.im⟩).re, opposite (rotateBack delta ⟨-u.re, -u.im⟩).im⟩

section
variable (s : State) (u : Pair)

theorem State.planOrder_toList_length_le (c : Fin 4) : (s.planOrder u c).toList.length ≤ 1 := by
  cases s.planOrder u c <;> simp

theorem State.planOrder_of_raw_zero {c : Fin 4} (h : (rawAmounts s.spin.par.ringOffset u)[c] = 0) :
    s.planOrder u c = none :=
  if_pos (.inr (Nat.le_zero.1 (h ▸ s.planAmount_raw u c)))

theorem State.planOrder_amount_le (c : Fin 4) :
    ((s.planOrder u c).toList.map (fun o => o.amount)).sum ≤ s.planAmount u c := by
  cases h : s.planOrder u c with
  | none => exact Nat.zero_le _
  | some o =>
    obtain ⟨rfl, -⟩ := (s.planOrder_some u).1 h
    simp

theorem State.plan_perm : (s.plan u).Perm ((s.planOrder u 0).toList ++ ((s.planOrder u 1).toList
    ++ ((s.planOrder u 2).toList ++ (s.planOrder u 3).toList))) := by
  have toList (c : Fin 4) (cs : List (Fin 4)) :
      (c :: cs).filterMap (s.planOrder u) = (s.planOrder u c).toList ++ cs.filterMap (s.planOrder u) := by
    rw [List.filterMap_cons]
    cases s.planOrder u c <;> rfl
  have hall := sortOrders_perm (([0, 1, 2, 3] : List (Fin 4)).filterMap (s.planOrder u))
  rw [← State.plan_eq] at hall
  rwa [toList, toList, toList, toList, List.filterMap_nil, List.append_nil] at hall

/-- R157: a plan has at most two orders. -/
theorem State.plan_length_le : (s.plan u).length ≤ 2 := by
  obtain ⟨hre, him⟩ := rawAmounts_opposite s.spin.par.ringOffset u
  have hone (c : Fin 4) (h : (rawAmounts s.spin.par.ringOffset u)[c] = 0) :
      (s.planOrder u c).toList.length = 0 := by
    rw [s.planOrder_of_raw_zero u h]
    rfl
  have hre' := hre.imp (hone 0) (hone 2)
  have him' := him.imp (hone 1) (hone 3)
  have h0 := s.planOrder_toList_length_le u 0
  have h1 := s.planOrder_toList_length_le u 1
  have h2 := s.planOrder_toList_length_le u 2
  have h3 := s.planOrder_toList_length_le u 3
  rw [(s.plan_perm u).length_eq]
  simp only [List.length_append]
  omega

/-- R158, step 2: the orders of a plan hold plan_limit or less together. -/
theorem State.plan_sum_le : ((s.plan u).map (fun o => o.amount)).sum ≤ s.spin.par.planLimit := by
  have hlimit := scaleAmount_sum_le s.spin.par.planLimit (s.planFill u 0) (s.planFill u 1) (s.planFill u 2)
    (s.planFill u 3)
  have h0 := s.planOrder_amount_le u 0
  have h1 := s.planOrder_amount_le u 1
  have h2 := s.planOrder_amount_le u 2
  have h3 := s.planOrder_amount_le u 3
  rw [((s.plan_perm u).map _).sum_nat]
  simp only [List.map_append, List.sum_append]
  simp only [State.planAmount] at h0 h1 h2 h3
  omega

/-- R158: an order of a plan fits the room of its chamber, which is not BLEEDING. -/
theorem State.plan_fits {o : Order} (h : o ∈ s.plan u) :
    o.amount + s.cham.chambers[o.chamber].content ≤ 400 ∧ s.chamberState o.chamber ≠ .bleeding := by
  obtain ⟨ho, -, hpos⟩ := (s.mem_plan_iff u o).1 h
  have hroom : o.amount ≤ s.planRoom o.chamber := 
    Nat.le_trans (Nat.le_of_eq (congrArg Order.amount ho)) (s.planAmount_le u o.chamber)
  unfold State.planRoom at hroom
  split at hroom
  next => omega
  next hb =>
    have hroom' : o.amount ≤ 400 - s.cham.chambers[o.chamber].content := hroom
    exact ⟨by omega, hb⟩

end

/-- Settles O56: a plan is the sorted list of the orders of the four chambers, and of two opposite chambers at most one
is given an amount. -/
theorem planKeepsItsLimits : Obligations.PlanKeepsItsLimits := by
  unfold Obligations.PlanKeepsItsLimits
  intro s u p os co si
  have hx : -u.re * co - u.im * si = -u.re * co + -u.im * si := by rw [Int.neg_mul u.im si, Int.sub_eq_add_neg]
  have hy : u.re * si - u.im * co = -u.im * co - -u.re * si := by rw [Int.neg_mul, Int.neg_mul]; omega
  refine ⟨s.plan_length_le u, s.plan_sum_le u, sortOrders_sorted (s.planOrder_chambers u), fun o ho => ?_,
    (rotateBack p.ringOffset ⟨-u.re, -u.im⟩).re, (rotateBack p.ringOffset ⟨-u.re, -u.im⟩).im,
    hx ▸ isRounded_roundDiv _ (by decide), hy ▸ isRounded_roundDiv _ (by decide), ?_⟩
  · obtain ⟨horder, hmin, hpos⟩ := (s.mem_plan_iff u o).1 ho
    exact ⟨congrArg Order.origin horder, hmin, hpos, s.plan_fits u ho⟩
  · intro room f sum g c a
    have hf (c : Fin 4) : f c = s.planFill u c := by
      rw [State.planFill, rawAmounts_get, Nat.min_comm]
      rfl
    have hsum : sum = s.planFill u 0 + s.planFill u 1 + s.planFill u 2 + s.planFill u 3 := by
      rw [← hf, ← hf, ← hf, ← hf]
    have hg : g c = s.planAmount u c := by
      rw [State.planAmount, ← hsum, ← hf]
      rfl
    rw [hg, s.mem_plan_iff u]
    exact and_congr_left' (by simp only [Order.mk.injEq, true_and, and_true])

end Sys2Proof.Machine
end

section
/-! The lookups of the Influence Table by their cases (R67 to R76; O55). -/

namespace Sys2Proof.Machine

section
variable {s : State} {i : Nat} {c : Fin 4}

/-! ## One lookup, case by case -/

/-- R69, R70: whether a lookup goes past the table to the baseline. -/
def State.Bypassed (s : State) (i : Nat) : Prop := s.forced i = true ∨ s.table.flush.isPending = true

/-- R67: whether the slot of a step is valid and holds the class. -/
def Table.Holds (t : Table) (i : Nat) (c : Fin 4) : Prop := t.valid i = true ∧ (t.slot i).tag = c

theorem State.lookup_bypassed (h : s.Bypassed i) :
    s.lookup i c = (s.setTable (s.table.remember i .miss), some (s.table.entry i c)) := by
  unfold State.lookup State.lookupCase
  dsimp only
  by_cases hforced : s.forced i = true
  · rw [if_pos hforced]
  · rw [if_neg hforced, if_pos (h.resolve_left hforced)]

theorem State.lookup_hit (h : ¬ s.Bypassed i) (hreach : s.table.Holds i c) (hagrees : (s.table.slot i).agrees = true) :
    s.lookup i c = (s.setTable (s.table.remember i .hit), some (s.table.slot i).k) := by
  obtain ⟨hforced, hpending⟩ := not_or.1 h
  obtain ⟨hvalid, htag⟩ := hreach
  unfold State.lookup State.lookupCase
  dsimp only
  rw [if_neg hforced, if_neg hpending, if_pos ⟨hvalid, htag, hagrees⟩]

theorem State.lookup_error (h : ¬ s.Bypassed i) (hreach : s.table.Holds i c)
    (hwrong : ¬ (s.table.slot i).agrees = true) : s.lookup i c = s.integrityError i c := by
  obtain ⟨hforced, hpending⟩ := not_or.1 h
  unfold State.lookup State.lookupCase
  dsimp only
  rw [if_neg hforced, if_neg hpending, if_neg fun hall => hwrong hall.2.2,
    if_pos (by exact hreach)]

theorem State.lookup_miss (h : ¬ s.Bypassed i) (hreach : ¬ s.table.Holds i c) :
    s.lookup i c = ((s.setTable (s.table.remember i .miss)).fillSlot i c, some (s.table.entry i c)) := by
  obtain ⟨hforced, hpending⟩ := not_or.1 h
  unfold State.lookup State.lookupCase
  dsimp only
  rw [if_neg hforced, if_neg hpending, if_neg fun hall => hreach ⟨hall.1, hall.2.1⟩,
    if_neg (by exact hreach)]

theorem State.integrityError_0 (h : s.spin.par.errorResponse = 0) : s.integrityError i c =
    ((s.setTable (s.table.remember i .error)).fillSlot i c, some (s.table.entry i c)) := by
  simp only [State.integrityError, h]

theorem State.integrityError_1 (h : s.spin.par.errorResponse = 1) : s.integrityError i c =
    (giveReport (.tableError ⟨i, c, 1, (s.table.slot i).k, some (s.table.entry i c)⟩)
      ((s.setTable (s.table.remember i .error)).fillSlot i c), some (s.table.entry i c)) := by
  simp only [State.integrityError, h]

theorem State.integrityError_2 (h : 2 ≤ s.spin.par.errorResponse) : s.integrityError i c =
    (giveReport (.tableError ⟨i, c, 2, (s.table.slot i).k, none⟩) (s.setTable (s.table.remember i .error)), none) := by
  obtain ⟨n, hn⟩ := Nat.exists_eq_add_of_le' h
  simp only [State.integrityError, hn]

/-! ## What a lookup leaves for the next one -/

/-- R67: a table by which the next lookup of a step for a class is a hit with a coefficient. -/
structure Table.Serves (t : Table) (i : Nat) (c : Fin 4) (k : Pair) : Prop where
  holds : t.Holds i c
  agrees : (t.slot i).agrees = true
  k_eq : (t.slot i).k = k

theorem Table.store_serves (t : Table) (hi : i < 12) (c : Fin 4) (k : Pair) : (t.store i c k).Serves i c k := by
  obtain ⟨hslot, hvalid⟩ := t.store_spec hi c k
  exact ⟨⟨hvalid, congrArg Slot.tag hslot⟩, hslot ▸ Slot.sound_agrees c k, congrArg Slot.k hslot⟩

theorem LookupFrame.bypassed {t : State} (h : LookupFrame s t) (hflush : t.table.flush = s.table.flush) :
    t.Bypassed i ↔ s.Bypassed i := by
  obtain ⟨⟨tb, l, rfl⟩, -⟩ := h
  unfold State.Bypassed
  rw [hflush]
  rfl

theorem State.fillSlot_serves (hi : i < 12) (h : Hit) :
    ((s.setTable (s.table.remember i h)).fillSlot i c).table.Serves i c (s.table.entry i c)
      ∧ ((s.setTable (s.table.remember i h)).fillSlot i c).table.flush = s.table.flush :=
  ⟨Table.store_serves _ hi c _, Table.mark_flush _ _ _ _⟩

/-- R67, R72, R74: a lookup that answers a coefficient past the bypass leaves it to the next lookup. -/
theorem State.lookup_serves {u : State} {k : Pair} (hi : i < 12) (h : ¬ s.Bypassed i)
    (hlook : s.lookup i c = (u, some k)) : u.table.Serves i c k ∧ u.table.flush = s.table.flush := by
  by_cases hreach : s.table.Holds i c
  · by_cases hagrees : (s.table.slot i).agrees = true
    · cases (State.lookup_hit h hreach hagrees).symm.trans hlook
      exact ⟨⟨hreach, hagrees, rfl⟩, rfl⟩
    · rw [State.lookup_error h hreach hagrees] at hlook
      obtain hzero | hone | htwo : s.spin.par.errorResponse = 0 ∨ s.spin.par.errorResponse = 1
        ∨ 2 ≤ s.spin.par.errorResponse := by omega
      · cases (State.integrityError_0 hzero).symm.trans hlook
        exact State.fillSlot_serves hi _
      · cases (State.integrityError_1 hone).symm.trans hlook
        exact State.fillSlot_serves hi _
      · cases (State.integrityError_2 htwo).symm.trans hlook
  · cases (State.lookup_miss h hreach).symm.trans hlook
    exact State.fillSlot_serves hi _

theorem State.lookup_again {u : State} {k : Pair} (hi : i < 12) (h : ¬ s.Bypassed i)
    (hlook : s.lookup i c = (u, some k)) :
    (u.lookup i c).2 = some k ∧ (u.lookup i c).1.table.history.head? = some ⟨i, .hit⟩ := by
  obtain ⟨⟨hholds, hagrees, hk⟩, hflush⟩ := State.lookup_serves hi h hlook
  have hframe : LookupFrame s u := by
    have hframe := s.lookup_frame i c
    rwa [hlook] at hframe
  rw [State.lookup_hit (fun hb => h ((hframe.bypassed hflush).1 hb)) hholds hagrees, hk]
  exact ⟨rfl, rfl⟩

/-! ## The lookups of a decision -/

theorem State.lookups_cons_none {t : State} (rest : List Nat) (h : s.lookup i c = (t, none)) :
    s.lookups c (i :: rest) = (t, none) := by
  rw [State.lookups, h]

theorem State.lookups_cons_some_none {t u : State} {k : Pair} {rest : List Nat} (h : s.lookup i c = (t, some k))
    (hrest : t.lookups c rest = (u, none)) : s.lookups c (i :: rest) = (u, none) := by
  rw [State.lookups, h]
  dsimp only
  rw [hrest]

theorem State.lookups_cons_some {t u : State} {k : Pair} {rest : List Nat} {ks : List StepK}
    (h : s.lookup i c = (t, some k)) (hrest : t.lookups c rest = (u, some ks)) :
    s.lookups c (i :: rest) = (u, some (⟨i, k⟩ :: ks)) := by
  rw [State.lookups, h]
  dsimp only
  rw [hrest]

end

/-! ## The slot written, by the number of its step -/

theorem Table.slot_fin (t : Table) (i : Fin 12) : t.slot i.val = t.slots[i] := tget_fin _ _ _

theorem Table.entry_fin (t : Table) (i : Fin 12) (c : Fin 4) : t.entry i.val c = t.baseline[i][c] :=
  congrArg (fun v : Vector Pair 4 => v[c]) (tget_fin t.baseline i _)

theorem Table.store_fin (t : Table) (i : Fin 12) (c : Fin 4) (k : Pair) : t.store i.val c k =
    { t with
      slots := t.slots.set i ⟨c, k, Config.checkValue c k⟩
      marksA := if t.active = .a then t.marksA.set i true else t.marksA
      marksB := if t.active = .b then t.marksB.set i true else t.marksB } := by
  unfold Table.store
  rw [tset_fin]
  obtain ⟨slots, marksA, marksB, active, flush, baseline, loaded, history⟩ := t
  cases active with
  | a => exact Table.mark_a _ i true
  | b => exact Table.mark_b _ i true

theorem State.fillSlot_fin (s : State) (i : Fin 12) (c : Fin 4) : s.fillSlot i.val c = s.setTable { s.table with
    slots := s.table.slots.set i ⟨c, s.table.baseline[i][c], Config.checkValue c s.table.baseline[i][c]⟩
    marksA := if s.table.active = .a then s.table.marksA.set i true else s.table.marksA
    marksB := if s.table.active = .b then s.table.marksB.set i true else s.table.marksB } := by
  unfold State.fillSlot
  rw [Table.store_fin, Table.entry_fin]

theorem Slot.agrees_iff (sl : Slot) : sl.agrees = true ↔ sl.check = Config.checkValue sl.tag sl.k := by
  unfold Slot.agrees
  simp

/-- Settles O55: each lookup is that of its case, whose slot serves the next one; the lookups of a decision go by the
list of their steps. -/
theorem lookupByCase : Obligations.LookupByCase := by
  unfold Obligations.LookupByCase
  refine ⟨?_, fun s c => ⟨rfl, fun i rest t => ⟨State.lookups_cons_none rest, fun k u h =>
    ⟨State.lookups_cons_some_none h, fun ks => State.lookups_cons_some h⟩⟩⟩⟩
  intro s i c t sl e set mark bypass reached agrees response noted written
  have hslot : t.slot i.val = sl := t.slot_fin i
  have hentry : t.entry i.val c = e := t.entry_fin i c
  have hvalid : t.valid i.val = set[i] := (tget_fin _ i _).trans (by cases h : t.active <;> simp only [set, h] <;> rfl)
  have hholds : t.Holds i.val c ↔ set[i] = true ∧ sl.tag = c := by
    unfold Table.Holds
    rw [hvalid, hslot]
  have hagrees : (s.table.slot i.val).agrees = true ↔ agrees := by
    rw [show s.table.slot i.val = sl from hslot]
    exact sl.agrees_iff
  have hnoted (h : Hit) : s.setTable (s.table.remember i.val h) = noted h := rfl
  have hwritten (h : Hit) : (s.setTable (s.table.remember i.val h)).fillSlot i.val c = written h :=
    State.fillSlot_fin _ i c
  have hreached (h : reached) : ¬ s.Bypassed i.val ∧ s.table.Holds i.val c := ⟨h.1, hholds.2 h.2⟩
  refine ⟨fun h => ?_, fun h ha => ?_, fun h ha h0 => ?_, fun h ha h1 => ?_, fun h ha h2 => ?_, fun h hmiss => ?_,
    fun u k h hlook => State.lookup_again i.isLt h hlook⟩
  · rw [State.lookup_bypassed h, hnoted, hentry]
  · obtain ⟨hb, hh⟩ := hreached h
    rw [State.lookup_hit hb hh (hagrees.2 ha), hnoted, hslot]
  · obtain ⟨hb, hh⟩ := hreached h
    rw [State.lookup_error hb hh (mt hagrees.1 ha), State.integrityError_0 h0, hwritten, hentry]
  · obtain ⟨hb, hh⟩ := hreached h
    rw [State.lookup_error hb hh (mt hagrees.1 ha), State.integrityError_1 h1, hwritten, hentry, hslot]
  · obtain ⟨hb, hh⟩ := hreached h
    rw [State.lookup_error hb hh (mt hagrees.1 ha), State.integrityError_2 h2, hnoted, hslot]
  · have hh : ¬ s.table.Holds i.val c := fun hh => by
      obtain ⟨hset, htag⟩ := hholds.1 hh
      rcases hmiss with hmiss | hmiss
      · rw [hset] at hmiss
        exact absurd hmiss (by decide)
      · exact hmiss htag
    rw [State.lookup_miss h hh, hwritten, hentry]

end Sys2Proof.Machine
end

section
/-! The imbalance estimate, the predictions and the learning step by their formulas (R32, R35, R36, R42 to R46; O54). -/

namespace Sys2Proof.Machine

/-! ## Estimate and prediction (R35, R36) -/

theorem estimateU_eq (k a : Pair) : estimateU k a =
    ⟨max (-8000) (min 8000 (roundDiv (k.re * a.re - k.im * a.im) 1024)),
      max (-8000) (min 8000 (roundDiv (k.re * a.im + k.im * a.re) 1024))⟩ := by
  rw [estimateU, saturate_eq (by decide), saturate_eq (by decide)]

theorem mag_estimateU_le (k a : Pair) : mag (estimateU k a) ≤ 11000 := by
  obtain ⟨hre, hre', him, him'⟩ := estimateU_bounds k a
  have hmag := mag_le (estimateU k a)
  omega

theorem estimateSize_le (k a : Pair) (steady : Bool) : estimateSize (estimateU k a) steady ≤ 13750 := by
  have hmag := mag_estimateU_le k a
  unfold estimateSize
  split <;> omega

/-- R36: the nearest integer to size * 1024 / m. -/
theorem nearest_quotient (n : Nat) {m : Nat} (hm : 0 < m) :
    2 * ((n + m / 2) / m * m) ≤ 2 * n + m ∧ 2 * n < 2 * ((n + m / 2) / m * m) + m := by
  have hle := Nat.div_mul_le_self (n + m / 2) m
  have hlt := Nat.lt_div_mul_add (a := n + m / 2) hm
  omega

theorem prediction_eq (size : Nat) {k : Pair} (h : 0 < mag k) :
    prediction size k = min 65535 ((size * 1024 + mag k / 2) / mag k) := by
  rw [prediction, if_neg (Nat.ne_of_gt h)]

/-! ## The coefficients of learning (R42, R43) -/

theorem coeffSat_eq (v : Int) : coeffSat v = max (-32768) (min 32767 v) := saturate_eq (by decide) v

theorem coeffSat_mem (v : Int) : -32768 ≤ coeffSat v ∧ coeffSat v ≤ 32767 := saturate_mem (by decide) v

/-- R43: a quarter of the way from one value to another stays between the two. -/
theorem quarter_between (a b : Int) : min a b ≤ a + truncDiv (b - a) 4 ∧ a + truncDiv (b - a) 4 ≤ max a b := by
  have hsize := (truncDiv_natAbs_bounds (b - a) (d := 4) (by decide)).1
  rcases Int.le_total a b with h | h
  · have hsign := truncDiv_nonneg (Int.sub_nonneg_of_le h) 4
    omega
  · have hsign := truncDiv_nonpos (n := b - a) (by omega) 4
    omega

/-- R43, step 5: a blended component needs no saturation. -/
theorem blend_between {a b : Int} (ha : -32768 ≤ a ∧ a ≤ 32767) (hb : -32768 ≤ b ∧ b ≤ 32767) :
    min a b ≤ coeffSat (a + truncDiv (b - a) 4) ∧ coeffSat (a + truncDiv (b - a) 4) ≤ max a b := by
  have hbetween := quarter_between a b
  rwa [coeffSat, saturate_of_mem (by omega) (by omega)]

section
variable {i floor : Nat} {kOld du d : Pair}

theorem learnFrom_step : (learnFrom i floor kOld du d).step = i := by
  unfold learnFrom
  dsimp only
  (repeat' split) <;> rfl

theorem learnFrom_accepted_iff :
    (learnFrom i floor kOld du d).result = .accepted ↔ (learnFrom i floor kOld du d).kNew.isSome = true := by
  unfold learnFrom
  dsimp only
  (repeat' split) <;> simp

theorem learnFrom_displacement (h : squaredLength d < floor * floor) :
    learnFrom i floor kOld du d = ⟨i, .displacement, kOld, none, none, du, d⟩ := if_pos h

theorem learnFrom_delivery (h : floor * floor ≤ squaredLength d) (hdu : mag du < 20) :
    learnFrom i floor kOld du d = ⟨i, .delivery, kOld, none, none, du, d⟩ := by
  unfold learnFrom
  dsimp only
  rw [if_neg (Nat.not_lt.2 h), if_pos hdu]

theorem learnFrom_ratio (h : floor * floor ≤ squaredLength d) (hdu : 20 ≤ mag du)
    (hfar : mag (measuredK du d) < mag kOld / 4 ∨ 4 * mag kOld < mag (measuredK du d)) :
    learnFrom i floor kOld du d = ⟨i, .ratio, kOld, some (measuredK du d), none, du, d⟩ := by
  unfold learnFrom
  dsimp only
  rw [if_neg (Nat.not_lt.2 h), if_neg (Nat.not_lt.2 hdu), if_pos hfar]

theorem learnFrom_magnitude (h : floor * floor ≤ squaredLength d) (hdu : 20 ≤ mag du)
    (hfar : ¬ (mag (measuredK du d) < mag kOld / 4 ∨ 4 * mag kOld < mag (measuredK du d)))
    (hnew : mag (blendedK kOld (measuredK du d)) < 16) :
    learnFrom i floor kOld du d = ⟨i, .magnitude, kOld, some (measuredK du d), none, du, d⟩ := by
  unfold learnFrom
  dsimp only
  rw [if_neg (Nat.not_lt.2 h), if_neg (Nat.not_lt.2 hdu), if_neg hfar, if_pos hnew]

theorem learnFrom_accepted (h : floor * floor ≤ squaredLength d) (hdu : 20 ≤ mag du)
    (hfar : ¬ (mag (measuredK du d) < mag kOld / 4 ∨ 4 * mag kOld < mag (measuredK du d)))
    (hnew : 16 ≤ mag (blendedK kOld (measuredK du d))) :
    learnFrom i floor kOld du d =
      ⟨i, .accepted, kOld, some (measuredK du d), some (blendedK kOld (measuredK du d)), du, d⟩ := by
  unfold learnFrom
  dsimp only
  rw [if_neg (Nat.not_lt.2 h), if_neg (Nat.not_lt.2 hdu), if_neg hfar, if_neg (Nat.not_lt.2 hnew)]

end

/-! ## The learning step (R32, R44, R82 to R85) -/

section
variable {s : State} {c : Fin 4} {a : Pair} {pre : PreFill}

theorem State.learningStep_none (h : s.est.preFill = none) : s.learningStep c a = (s, .none) := by
  simp only [State.learningStep, h]

theorem State.learningStep_some (h : s.est.preFill = some pre) : s.learningStep c a =
    ((s.setEst { s.est with preFill := none }).takeLearned c (learn s.spin.par pre a),
      if (learn s.spin.par pre a).result = .accepted then .accepted else .rejected) := by
  simp only [State.learningStep, h]

theorem State.takeLearned_discarded {o : LearnOutcome} (h : s.Bypassed o.step) : s.takeLearned c o = s :=
  if_pos (by rw [Bool.or_eq_true]; exact h)

theorem State.takeLearned_rejected {o : LearnOutcome} (h : ¬ s.Bypassed o.step) (hk : o.kNew = none) :
    s.takeLearned c o = giveReport (.learned ⟨c, o⟩) s := by
  unfold State.takeLearned
  rw [if_neg (by rw [Bool.or_eq_true]; exact h), hk]

theorem State.takeLearned_stored {o : LearnOutcome} {k : Pair} (h : ¬ s.Bypassed o.step) (hk : o.kNew = some k) :
    s.takeLearned c o = giveReport (.learned ⟨c, o⟩) (s.setTable (s.table.store o.step c k)) := by
  unfold State.takeLearned
  rw [if_neg (by rw [Bool.or_eq_true]; exact h), hk]

end

/-! ## The statement -/

/-- Settles O54: the formulas are the rounded and truncated quotients of their definitions, the outcomes follow the
tests, and what becomes of one follows `takeLearned`. -/
theorem estimateAndLearning : Obligations.EstimateAndLearning := by
  unfold Obligations.EstimateAndLearning
  refine ⟨⟨fun k a steady => ⟨_, _, isRounded_roundDiv _ (by decide), isRounded_roundDiv _ (by decide),
      estimateU_eq k a, ?_, ?_, estimateSize_le k a steady⟩,
    fun size k => ⟨prediction_le size k, fun h => ⟨_, ?_, ?_, prediction_eq size h⟩⟩⟩,
    fun p pre a => ⟨_, _, isRounded_roundDiv _ (by decide), isRounded_roundDiv _ (by decide), rfl⟩,
    fun du d kOld kMeas => ⟨fun hd => ⟨_, _, isRounded_roundDiv _ hd, isRounded_roundDiv _ hd, ?_⟩, ?_⟩,
    fun i floor kOld du d => ⟨learnFrom_displacement, learnFrom_delivery, learnFrom_ratio, learnFrom_magnitude,
      learnFrom_accepted, fun h => ?_, fun h => ?_⟩,
    fun s c a h => State.learningStep_none h, ?_⟩
  · rintro rfl
    rfl
  · rintro rfl
    show 4 * (mag (estimateU k a) * 5 / 4) ≤ _ ∧ _ < 4 * (mag (estimateU k a) * 5 / 4 + 1)
    omega
  · exact (nearest_quotient _ h).1
  · exact (nearest_quotient _ h).2
  · exact congr (congrArg Pair.mk (coeffSat_eq _)) (coeffSat_eq _)
  · exact congr (congrArg Pair.mk (coeffSat_eq _)) (coeffSat_eq _)
  · obtain ⟨hlow, hhigh⟩ := coeffSat_mem (roundDiv ((du.re * d.re + du.im * d.im) * 1024) (squaredLength d))
    exact ⟨hlow, hhigh, blend_between h ⟨hlow, hhigh⟩⟩
  · obtain ⟨hlow, hhigh⟩ := coeffSat_mem (roundDiv ((du.im * d.re - du.re * d.im) * 1024) (squaredLength d))
    exact ⟨hlow, hhigh, blend_between h ⟨hlow, hhigh⟩⟩
  · intro s c a pre i hpre hstep o used learned mark discarded
    have hostep : o.step = i.val := learnFrom_step.trans hstep
    have hbypass : used.Bypassed o.step ↔ discarded := by
      rw [hostep]
      rfl
    refine ⟨learnFrom_accepted_iff, fun h => ?_, fun h hk => ?_, fun k h hk => ?_⟩
    · rw [State.learningStep_some hpre, State.takeLearned_discarded (hbypass.2 h)]
    · rw [State.learningStep_some hpre, State.takeLearned_rejected (fun hb => h (hbypass.1 hb)) hk]
    · rw [State.learningStep_some hpre, State.takeLearned_stored (fun hb => h (hbypass.1 hb)) hk]
      have hstore := (congrArg (fun j => s.table.store j c k) hostep).trans (s.table.store_fin i c k)
      exact congrArg (fun t => (giveReport (.learned ⟨c, o⟩) (used.setTable t), learned)) hstore

end Sys2Proof.Machine
end

section
/-! The tests of a decision in their order, the worst margin, and what each outcome makes of the session (R101 to R106,
R122; O52). -/

namespace Sys2Proof.Machine

/-! ## The planner asked (R103 test 4) -/

section
variable {s : State} {i d magA size : Nat} {u : Pair} {qs : List Prediction}

theorem State.mayPlan_iff : s.mayPlan i = true ↔
    s.spin.par.holdSpeed ≤ s.spin.speedOf i ∧ s.cham.balancer = true ∧ s.spin.plans < s.spin.par.maxPlans := by
  unfold State.mayPlan
  simp only [Bool.and_eq_true, decide_eq_true_eq, and_assoc]

theorem State.planFor_ne_nil_iff : s.planFor i u ≠ [] ↔ s.mayPlan i = true ∧ s.plan u ≠ [] := by
  unfold State.planFor
  by_cases h : s.mayPlan i = true
  · rw [if_pos h]
    exact (and_iff_right h).symm
  · rw [if_neg h]
    exact ⟨fun hne => absurd rfl hne, fun hboth => absurd hboth.1 h⟩

theorem State.planFor_of_ne_nil (h : s.planFor i u ≠ []) : s.planFor i u = s.plan u :=
  if_pos (State.planFor_ne_nil_iff.1 h).1

/-! ## The tests of a climb decision (R102, R103) and of a goal decision (R104) -/

section
variable (hlimit : s.spin.limitOf i < magA)
include hlimit

theorem State.climbChoice_beyond : s.climbChoice i d magA size u qs = ⟨s.spin.excursionChoice i, 1⟩ := if_pos hlimit

theorem State.goalChoice_beyond : s.goalChoice i magA u = ⟨s.spin.excursionChoice i, 7⟩ := if_pos hlimit

end

section
variable (hlimit : ¬ s.spin.limitOf i < magA)
include hlimit

theorem State.goalChoice_balance (hmag : s.spin.limitOf i * 3 / 4 < magA) (hplan : s.planFor i u ≠ []) :
    s.goalChoice i magA u = ⟨.balance (s.plan u), 8⟩ := by
  unfold State.goalChoice
  rw [if_neg hlimit, if_pos ⟨hmag, hplan⟩, State.planFor_of_ne_nil hplan]

theorem State.goalChoice_hold (h : ¬ (s.spin.limitOf i * 3 / 4 < magA ∧ s.planFor i u ≠ [])) :
    s.goalChoice i magA u = ⟨.hold, 9⟩ := by
  unfold State.goalChoice
  rw [if_neg hlimit, if_neg h]

theorem State.climbChoice_gross (hgross : i = 0 ∧ s.spin.par.redistThreshold < size) :
    s.climbChoice i d magA size u qs =
      ⟨if s.spin.attempts < s.spin.par.maxAttempts then .redistribute else .capHere, 2⟩ := by
  unfold State.climbChoice
  dsimp only
  rw [if_neg hlimit, if_pos hgross]

variable (hgross : ¬ (i = 0 ∧ s.spin.par.redistThreshold < size))
include hgross

theorem State.climbChoice_advance (hpermit : s.spin.permit qs = true) :
    s.climbChoice i d magA size u qs = ⟨.advance d, 3⟩ := by
  unfold State.climbChoice
  dsimp only
  rw [if_neg hlimit, if_neg hgross, if_pos hpermit]

variable (hpermit : ¬ s.spin.permit qs = true)
include hpermit

theorem State.climbChoice_balance (hplan : s.planFor i u ≠ []) :
    s.climbChoice i d magA size u qs = ⟨.balance (s.plan u), 4⟩ := by
  unfold State.climbChoice
  dsimp only
  rw [if_neg hlimit, if_neg hgross, if_neg hpermit, if_pos hplan, State.planFor_of_ne_nil hplan]

theorem State.climbChoice_unplanned (hplan : ¬ s.planFor i u ≠ []) : s.climbChoice i d magA size u qs =
    if s.spin.speedOf i < s.spin.par.holdSpeed ∧ s.spin.attempts < s.spin.par.maxAttempts then ⟨.redistribute, 5⟩
    else ⟨.capHere, 6⟩ := by
  unfold State.climbChoice
  dsimp only
  rw [if_neg hlimit, if_neg hgross, if_neg hpermit, if_neg hplan]

end
end

theorem Spin.permit_iff {p : Spin} {qs : List Prediction} :
    p.permit qs = true ↔ ∀ q ∈ qs, q.p ≤ p.limitOf q.step := by
  simp [Spin.permit]

/-! ## The worst margin (R101) -/

/-- R101: the largest margin with the lowest step that has it. -/
structure Spin.Worst (p : Spin) (qs : List Prediction) (x : Nat) (m : Int) : Prop where
  attained : ∃ q ∈ qs, q.step = x ∧ p.margin q = m
  largest : ∀ q ∈ qs, p.margin q ≤ m
  lowest : ∀ q ∈ qs, p.margin q = m → x ≤ q.step

theorem Spin.worstMargin_none {p : Spin} {qs : List Prediction} : p.worstMargin qs = none ↔ qs = [] := by
  cases qs with
  | nil => exact ⟨fun _ => rfl, fun _ => rfl⟩
  | cons q rest =>
    rw [Spin.worstMargin]
    split
    · simp
    · split <;> simp

theorem Spin.worstMargin_worst {p : Spin} {qs : List Prediction} (hsorted : qs.Pairwise (fun a b => a.step < b.step))
    {x : Nat} {m : Int} (h : p.worstMargin qs = some (x, m)) : p.Worst qs x m := by
  induction qs generalizing x m with
  | nil => exact nomatch h
  | cons q rest ih =>
    obtain ⟨hq, hrest⟩ := List.pairwise_cons.1 hsorted
    have hhead : p.margin q = p.margin q → q.step ≤ q.step := fun _ => Nat.le_refl _
    rw [Spin.worstMargin] at h
    split at h
    next hnone =>
      cases h
      rw [Spin.worstMargin_none.1 hnone]
      exact ⟨⟨q, List.mem_singleton_self q, rfl, rfl⟩, by simp, by simp⟩
    next y n hsome =>
      obtain ⟨⟨r, hr, hstep, hmargin⟩, hlargest, hlowest⟩ := ih hrest hsome
      split at h
      next hle =>
        cases h
        refine ⟨⟨q, List.mem_cons_self, rfl, rfl⟩, fun o ho => ?_, fun o ho _ => ?_⟩
        · obtain rfl | ho := List.mem_cons.1 ho
          · exact Int.le_refl _
          · exact Int.le_trans (hlargest o ho) hle
        · obtain rfl | ho := List.mem_cons.1 ho
          · exact Nat.le_refl _
          · exact Nat.le_of_lt (hq o ho)
      next hgt =>
        cases h
        refine ⟨⟨r, List.mem_cons_of_mem q hr, hstep, hmargin⟩, fun o ho => ?_, fun o ho heq => ?_⟩
        · obtain rfl | ho := List.mem_cons.1 ho
          · exact Int.le_of_lt (Int.not_le.1 hgt)
          · exact hlargest o ho
        · obtain rfl | ho := List.mem_cons.1 ho
          · exact absurd (Int.le_of_eq heq.symm) hgt
          · exact hlowest o ho heq

/-- R101: the permit holds exactly when the worst margin is 0 or less. -/
theorem Spin.Worst.permit {p : Spin} {qs : List Prediction} {x : Nat} {m : Int} (h : p.Worst qs x m) :
    m ≤ 0 ↔ ∀ q ∈ qs, q.p ≤ p.limitOf q.step := by
  obtain ⟨⟨q, hq, -, hmargin⟩, hlargest, -⟩ := h
  refine ⟨fun hm o ho => ?_, fun hall => ?_⟩
  · have ho := hlargest o ho
    unfold Spin.margin at ho
    omega
  · have hqle := hall q hq
    unfold Spin.margin at hmargin
    omega

/-! ## A plan taken by the arbiter (R145, R158) -/

section
variable {s : State} {o : Order}

/-- R144: an order that fits the room of its chamber. -/
def State.Fits (s : State) (o : Order) : Prop :=
  1 ≤ o.amount ∧ o.amount + s.cham.chambers[o.chamber].content ≤ 400

theorem State.Fits.clamped (h : s.Fits o) : min o.amount (s.cham.room o.chamber) = o.amount := by
  obtain ⟨-, hroom⟩ := h
  have hle : o.amount ≤ s.cham.room o.chamber := Nat.le_sub_of_add_le hroom
  exact Nat.min_eq_left hle

theorem State.Fits.amount_ne (h : s.Fits o) : min o.amount (s.cham.room o.chamber) ≠ 0 := by
  rw [h.clamped]
  exact Nat.ne_of_gt h.1

theorem State.Fits.clampOrder (h : s.Fits o) : s.clampOrder o = o := by
  rw [State.clampOrder, h.clamped]

theorem State.takeOrder_fits_started (h : s.Fits o) (hq : s.cham.queue = []) (hf : s.cham.flight = none) :
    s.takeOrder o = s.setCham { s.cham with
      flight := some ⟨o, s.cham.chambers[o.chamber].content, 0, 0⟩
      supplyTimer := some ⟨s.time, s.spin.par.supplyTimeout * 1000⟩ } := by
  let t := s.setCham { s.cham with queue := [o] }
  have hstart : t.startNext = t.setCham ({ s.cham with queue := [] }.startOrder s.time s.spin.par.supplyTimeout
      { o with amount := min o.amount (s.cham.room o.chamber) }) :=
    (t.startNext_free hf).trans (State.startFrom_starts (s := t) h.amount_ne)
  rw [State.takeOrder, State.orderCase_started h.amount_ne (by simp [hq]) hf]
  dsimp only
  rw [h.clampOrder, hq]
  refine hstart.trans ?_
  rw [h.clamped]
  rfl

theorem State.takeOrder_fits_queued (h : s.Fits o) (hq : ∀ q ∈ s.cham.queue, q.chamber ≠ o.chamber) {f : Flight}
    (hf : s.cham.flight = some f) (hc : f.order.chamber ≠ o.chamber) :
    s.takeOrder o = s.setCham { s.cham with queue := s.cham.queue ++ [o] } := by
  rw [State.takeOrder, State.orderCase_queued h.amount_ne (fun ⟨q, hmem, heq⟩ => hq q hmem heq) hf hc, h.clampOrder]

theorem State.takeOrders_queued {f : Flight} {os : List Order} (hf : s.cham.flight = some f)
    (hfits : ∀ o ∈ os, s.Fits o) (hc : ∀ o ∈ os, f.order.chamber ≠ o.chamber)
    (hq : ∀ q ∈ s.cham.queue, ∀ o ∈ os, q.chamber ≠ o.chamber)
    (hos : os.Pairwise (fun x y => x.chamber ≠ y.chamber)) :
    s.takeOrders os = s.setCham { s.cham with queue := s.cham.queue ++ os } := by
  induction os generalizing s with
  | nil =>
    rw [List.append_nil]
    rfl
  | cons o rest ih =>
    obtain ⟨ho, hrest⟩ := List.pairwise_cons.1 hos
    rw [State.takeOrders, State.takeOrder_fits_queued (hfits o List.mem_cons_self)
      (fun q hmem => hq q hmem o List.mem_cons_self) hf (hc o List.mem_cons_self)]
    refine (ih (s := s.setCham { s.cham with queue := s.cham.queue ++ [o] }) hf (fun x hx => hfits x (List.mem_cons_of_mem o hx))
      (fun x hx => hc x (List.mem_cons_of_mem o hx)) (fun q hmem x hx => ?_) hrest).trans ?_
    · obtain hmem | hmem := List.mem_append.1 (by exact hmem : q ∈ s.cham.queue ++ [o])
      · exact hq q hmem x (List.mem_cons_of_mem o hx)
      · rw [List.mem_singleton.1 hmem]
        exact ho x hx
    · simp only [State.setCham, List.append_assoc, List.cons_append, List.nil_append]

/-- R145, R158: the first order of a plan starts, and the others wait behind it. -/
theorem State.takeOrders_fits {rest : List Order} (hf : s.cham.flight = none) (hq : s.cham.queue = [])
    (hfits : ∀ x ∈ o :: rest, s.Fits x) (hos : (o :: rest).Pairwise (fun x y => x.chamber ≠ y.chamber)) :
    s.takeOrders (o :: rest) = s.setCham { s.cham with
      queue := rest
      flight := some ⟨o, s.cham.chambers[o.chamber].content, 0, 0⟩
      supplyTimer := some ⟨s.time, s.spin.par.supplyTimeout * 1000⟩ } := by
  obtain ⟨ho, hrest⟩ := List.pairwise_cons.1 hos
  let f : Flight := ⟨o, s.cham.chambers[o.chamber].content, 0, 0⟩
  let t := s.setCham { s.cham with
    flight := some f, supplyTimer := some ⟨s.time, s.spin.par.supplyTimeout * 1000⟩ }
  rw [State.takeOrders, State.takeOrder_fits_started (hfits o List.mem_cons_self) hq hf]
  refine (State.takeOrders_queued (s := t) (f := f) rfl (fun x hx => hfits x (List.mem_cons_of_mem o hx)) ho
    (fun q hmem => ?_) hrest).trans ?_
  · rw [show t.cham.queue = [] from hq] at hmem
    exact nomatch hmem
  · simp only [t, f, State.setCham, hq, List.nil_append]

end

/-! ## The outcomes (R105, R106, R122) -/

section
variable {s : State} {i : Nat} {a k : Pair} {size test : Nat} (h : s.spin.state = .measuring)
include h

theorem State.applyChoice_advance (d : Nat) : s.applyChoice i a k size ⟨.advance d, test⟩ = giveReport
    (.state ⟨.ramping, .measuring, .advance, s.spin.dwell, some d, some (s.rampDir d), s.spin.target, s.spin.ceiling,
      s.spin.speedOf d⟩)
    { s with
      spin := { s.spin with
        state := .ramping, dest := some d, dir := some (s.rampDir d), demand := s.spin.speedOf d, rampCount := 0
        rampTimer := some ⟨s.time, s.spin.rampUs (s.spin.speedOf d) s.rot.speed⟩, plans := 0 }
      est := { s.est with window := [], m := 0, preFill := none } } := by
  rw [← h]
  exact (s.startRamping_eq d (s.rampDir d) .advance).trans
    (by rw [State.plateauLeft_elsewhere (by rw [h]; decide)])

theorem State.applyChoice_balance {o : Order} {rest : List Order} (hf : s.cham.flight = none) (hq : s.cham.queue = [])
    (hfits : ∀ x ∈ o :: rest, s.Fits x) (hos : (o :: rest).Pairwise (fun x y => x.chamber ≠ y.chamber)) :
    s.applyChoice i a k size ⟨.balance (o :: rest), test⟩ = giveReport
      (.state ⟨.balancing, .measuring, .balance, s.spin.dwell, s.spin.dest, s.spin.dir, s.spin.target, s.spin.ceiling,
        s.spin.demand⟩)
      { s with
        spin := { s.spin with state := .balancing }
        est := { s.est with window := [], m := 0, preFill := some ⟨i, a, k, Vector.replicate 4 0⟩ }
        cham := { s.cham with
          queue := rest
          flight := some ⟨o, s.cham.chambers[o.chamber].content, 0, 0⟩
          supplyTimer := some ⟨s.time, s.spin.par.supplyTimeout * 1000⟩ } } := by
  have htaken := State.takeOrders_fits
    (s := s.setEst { s.est.emptied with preFill := some ⟨i, a, k, Vector.replicate 4 0⟩ }) hf hq hfits hos
  rw [← h]
  exact congrArg (fun t : State => t.enter .balancing .balance) htaken

theorem State.applyChoice_capRetreats : s.applyChoice i a k size ⟨.capRetreats, test⟩ =
    (giveReport (.ceiling ⟨s.spin.dwellBelow i, s.spin.ceiling, .retreats, s.spin.dwell, s.spin.target⟩)
      (s.setSpin { s.spin with ceiling := some (s.spin.dwellBelow i) })).descending (s.spin.dwellBelow i) .cap := by
  have helse : s.spin.state ≠ .balancing := by rw [h]; decide
  show (s.lowerCeiling (s.spin.dwellBelow i) .retreats).startRetreating (s.spin.dwellBelow i) .cap = _
  rw [State.lowerCeiling, State.startRetreating_eq, State.descending_elsewhere (by exact helse),
    State.descending_elsewhere (by exact helse)]
  rfl

end

end Sys2Proof.Machine
end

section
/-! The decision event: learning, the lookups, the estimate with its report, and the choice (R32, R100, R107; O52). -/

namespace Sys2Proof.Machine

/-! ## The next dwell step (R90, R100) -/

theorem Spin.dwellFrom_eq {p : Spin} {j n d : Nat} (hj : j ≤ d) (hd : d < j + n) (hdwell : p.isDwell d = true)
    (hfirst : ∀ z, j ≤ z → z < d → p.isDwell z = false) : p.dwellFrom j n = some d := by
  induction n generalizing j with
  | zero => omega
  | succ n ih =>
    rw [Spin.dwellFrom]
    obtain rfl | hlt := Nat.eq_or_lt_of_le hj
    · rw [if_pos hdwell]
    · rw [if_neg (by rw [hfirst j (Nat.le_refl j) hlt]; decide)]
      exact ih hlt (by omega) fun z hz => hfirst z (by omega)

theorem Spin.nextDwell_eq {p : Spin} {i goal d : Nat} (hi : i < d) (hd : d ≤ goal) (hdwell : p.isDwell d = true)
    (hfirst : ∀ z, i < z → z < d → p.isDwell z = false) : p.nextDwell i goal = d := by
  rw [Spin.nextDwell, Spin.dwellFrom_eq hi (by omega) hdwell hfirst]
  rfl

/-! ## The decision event by what its lookups bring -/

section
variable {s : State} {v : ReadyWindow} {c : Fin 4} {i goal : Nat} {d : Option Nat} {x : State}
  (hc : s.weigh.cls = some c) (hi : s.spin.dwell = some i) (hgoal : s.spin.goal = some goal)
  (hd : (if i < goal then some (s.spin.nextDwell i goal) else none) = d)
include hc hi hgoal hd

theorem State.decisionEvent_decides {k : Pair} {above : List StepK}
    (hlook : (s.learningStep c v.avg).1.lookups c (decisionSteps i d) = (x, some (⟨i, k⟩ :: above))) :
    s.decisionEvent v = x.decideWith i goal d v (s.learningStep c v.avg).2 k above := by
  unfold State.decisionEvent
  simp only [hc, hi, hgoal, Option.getD_some, hd, hlook]

theorem State.decisionEvent_aborts
    (hlook : (s.learningStep c v.avg).1.lookups c (decisionSteps i d) = (x, none)) :
    s.decisionEvent v = x.enterAborting .table := by
  unfold State.decisionEvent
  simp only [hc, hi, hgoal, Option.getD_some, hd, hlook]

end

/-- R32, R67: learning and lookups leave the Spin Controller alone. -/
theorem State.lookups_spin {s x : State} {c : Fin 4} {a : Pair} {is : List Nat} {ks : Option (List StepK)}
    (hlook : (s.learningStep c a).1.lookups c is = (x, ks)) : x.spin = s.spin := by
  obtain ⟨⟨tb, l, rfl⟩, -⟩ := State.lookups_frame_of hlook
  exact s.learningStep_spin c a

/-- R107: the DECISION report of a decision. -/
def State.decisionReport (s : State) (i goal : Nat) (d : Option Nat) (w : ReadyWindow) (u : Pair) (size : Nat)
    (qs : List Prediction) (m : Decided) : DecisionReport where
  step := i
  goal := goal
  ceiling := s.spin.ceiling.getD 0
  next := d
  outcome := m.choice.code
  test := m.test
  steady := w.steady
  avg := w.avg
  magA := mag w.avg
  limit := s.spin.limitOf i
  u := u
  size := size
  worst := s.spin.worstMargin qs
  attempts := (s.spin.countOutcome m.choice).attempts
  retreats := (s.spin.countOutcome m.choice).retreats
  plans := (s.spin.countOutcome m.choice).plans
  orders := m.choice.orderCount

theorem State.decideWith_report (s : State) (i goal : Nat) (d : Option Nat) (w : ReadyWindow) (learned : Learned)
    (k : Pair) (above : List StepK) :
    let u := estimateU k w.avg
    let size := estimateSize u w.steady
    let qs := above.map (fun q => (⟨q.step, prediction size q.k⟩ : Prediction))
    let y := s.estimated i w learned k qs
    let m := y.choose i d (mag w.avg) size u qs
    s.decideWith i goal d w learned k above =
      (giveReport (.decision (y.decisionReport i goal d w u size qs m)) (y.setSpin (s.spin.countOutcome m.choice))).applyChoice
        i w.avg k size m := by
  intro u size qs y m
  unfold State.decideWith
  dsimp only
  rw [predictionsOf_eq]
  cases d <;> rfl

/-! ## The statement -/

theorem Spin.excursionChoice_above {p : Spin} {i : Nat} (h : 0 < i) :
    p.excursionChoice i = if p.retreats < p.par.maxRetreats then .retreat else .capRetreats := if_pos h

theorem Spin.excursionChoice_0 {p : Spin} :
    p.excursionChoice 0 = if p.attempts < p.par.maxAttempts then .redistribute else .unbalanced := rfl

/-- Settles O52: the tests are the branches of the two decisions, the worst margin is found along the list, each
outcome is its change of state, and the decision event is learning, lookups, estimate, report and outcome in turn. -/
theorem decisionTestsAndOutcomes : Obligations.DecisionTestsAndOutcomes := by
  unfold Obligations.DecisionTestsAndOutcomes
  refine ⟨⟨?_, ?_⟩, ?_, ?_⟩
  · intro s i d magA size u qs p tooLarge gross permit again planned climb goal beyond
    have hplanned : s.planFor i u ≠ [] ↔ planned := by
      rw [State.planFor_ne_nil_iff, State.mayPlan_iff, and_assoc, and_assoc]
    have hpermit : s.spin.permit qs = true ↔ permit := Spin.permit_iff
    have hbeyond (h : tooLarge) (c : Choice) (hc : s.spin.excursionChoice i = c) : beyond c :=
      ⟨hc ▸ State.climbChoice_beyond h, hc ▸ State.goalChoice_beyond h⟩
    have hunplanned (hl : ¬ tooLarge) (hg : ¬ gross) (hp : ¬ permit) (hn : ¬ planned) :=
      State.climbChoice_unplanned (d := d) hl hg (mt hpermit.1 hp) (mt hplanned.1 hn)
    refine ⟨fun h hi hr => ?_, fun h hi hr => ?_, fun h hi ha => ?_, fun h hi ha => ?_, fun h hg ha => ?_,
      fun h hg ha => ?_, fun h hg hp => State.climbChoice_advance h hg (hpermit.2 hp),
      fun h hg hp hpl => State.climbChoice_balance h hg (mt hpermit.1 hp) (hplanned.2 hpl),
      fun h hg hp hpl hs ha => ?_, fun h hg hp hpl hs => ?_,
      fun h hm hpl => State.goalChoice_balance h hm (hplanned.2 hpl), fun h hm => State.goalChoice_hold h ?_⟩
    · exact hbeyond h _ ((Spin.excursionChoice_above hi).trans (if_pos hr))
    · exact hbeyond h _ ((Spin.excursionChoice_above hi).trans (if_neg (Nat.not_lt.2 hr)))
    · exact hbeyond h _ (hi ▸ Spin.excursionChoice_0.trans (if_pos ha))
    · exact hbeyond h _ (hi ▸ Spin.excursionChoice_0.trans (if_neg ha))
    · exact (State.climbChoice_gross h hg).trans (by rw [if_pos (by exact ha)])
    · exact (State.climbChoice_gross h hg).trans (by rw [if_neg (by exact ha)])
    · exact (hunplanned h hg hp hpl).trans (if_pos ⟨hs, ha⟩)
    · exact (hunplanned h hg hp hpl).trans (if_neg fun hboth => hs.elim (Nat.not_le.2 hboth.1) (· hboth.2))
    · rintro ⟨hmag, hplan⟩
      exact hm.elim (Nat.not_le.2 hmag) (· (hplanned.1 hplan))
  · intro p qs hsorted
    refine ⟨Spin.worstMargin_none, fun x m h => ?_⟩
    have hworst := Spin.worstMargin_worst hsorted h
    exact ⟨hworst.permit, hworst.attained, fun q hq => ⟨hworst.largest q hq, hworst.lowest q hq⟩⟩
  · intro s i size test a k hm hi p after emptied j
    have helse : s.spin.state ≠ .balancing := by rw [hm]; decide
    have hbelow (c : Choice) : (p.countOutcome c).dwellBelow i = j := by
      obtain ⟨-, -, -, hladder⟩ := p.countOutcome_same c
      exact Spin.dwellBelow_congr hladder i
    refine ⟨fun d => State.applyChoice_advance (s := s.setSpin (p.countOutcome (.advance d))) hm d,
      fun o rest hf hq hfits hos =>
        State.applyChoice_balance (s := s.setSpin (p.countOutcome (.balance (o :: rest)))) hm hf hq hfits hos,
      rfl, rfl, ?_, ?_, ?_, State.enterWinddown_eq _ _⟩
    · have hretreat : after .retreat = (s.setSpin (p.countOutcome .retreat)).descending j .retreat :=
        (State.startRetreating_eq _ _ _).trans (by rw [← hbelow .retreat]; rfl)
      rw [hretreat, State.descending_elsewhere (by exact helse), State.descending_elsewhere (by exact helse)]
      rfl
    · refine (State.applyChoice_capRetreats (s := s.setSpin (p.countOutcome .capRetreats)) hm).trans ?_
      rw [State.setSpin_spin, hbelow, State.descending_elsewhere (by exact helse), State.descending_elsewhere (by exact helse)]
      rfl
    · exact State.enterWinddown_eq _ _
  · intro s v c i goal ceiling hm hc hi hgoal hceiling p learnt decided
    have hdecided (x : State) (d : Option Nat) (k : Pair) (above : List StepK) (hx : x.spin = s.spin) :
        x.decideWith i goal d v learnt.2 k above = decided x d k above := by
      obtain rfl : ceiling = x.spin.ceiling.getD 0 := by rw [hx, hceiling]; rfl
      have hp : p = x.spin := hx.symm
      clear_value p
      subst hp
      refine (State.decideWith_report _ _ _ _ _ _ _ _).trans ?_
      cases d <;> rfl
    have hnext (d : Nat) (hid : i < d) (hdg : d ≤ goal) (hdwell : p.isDwell d = true)
        (hfirst : ∀ z, i < z → z < d → p.isDwell z = false) :
        (if i < goal then some (s.spin.nextDwell i goal) else none) = some d := by
      rw [if_pos (Nat.lt_of_lt_of_le hid hdg), Spin.nextDwell_eq hid hdg hdwell hfirst]
    have hnone (h : goal ≤ i) : (if i < goal then some (s.spin.nextDwell i goal) else none) = none :=
      if_neg (Nat.not_lt.2 h)
    refine ⟨fun d k above x hid hdg hdwell hfirst hlook => ?_, fun d x hid hdg hdwell hfirst hlook => ?_,
      fun k x hg hlook => ?_, fun x hg hlook => ?_⟩
    · rw [State.decisionEvent_decides hc hi hgoal (hnext d hid hdg hdwell hfirst) hlook]
      exact hdecided x _ k above (State.lookups_spin hlook)
    · rw [State.decisionEvent_aborts hc hi hgoal (hnext d hid hdg hdwell hfirst) hlook, State.enterAborting_eq]
    · rw [State.decisionEvent_decides hc hi hgoal (hnone hg) hlook]
      exact hdecided x _ k [] (State.lookups_spin hlook)
    · rw [State.decisionEvent_aborts hc hi hgoal (hnone hg) hlook, State.enterAborting_eq]

end Sys2Proof.Machine
end

section
/-! The two ways into RAMPING: every event but a taken record and the weigh limit leaves the spin state out of it, and a
record brings it in by the end of a weighing or by a permitted decision (R105, R117; O53). -/

namespace Sys2Proof.Machine

/-! ## Changes that do not start a ramp -/

/-- RAMPING is not entered. -/
def Calm (s t : State) : Prop := t.spin.state = .ramping → s.spin.state = .ramping

theorem Calm.refl (s : State) : Calm s s := id

theorem Calm.trans {a b c : State} (h : Calm a b) (k : Calm b c) : Calm a c := h ∘ k

theorem Calm.of_spin {s t : State} (h : t.spin = s.spin) : Calm s t := fun hr => h ▸ hr

theorem Calm.of_state {s t : State} (h : t.spin.state = s.spin.state) : Calm s t := fun hr => h ▸ hr

theorem Calm.of_ne {s t : State} (h : t.spin.state ≠ .ramping) : Calm s t := fun hr => absurd hr h

theorem Calm.water {s t : State} (h : WaterFrame s t) : Calm s t := .of_spin h.spin

section
variable (s : State)

theorem State.enterAborting_ne_ramping (c : Cause) : (s.enterAborting c).spin.state ≠ .ramping := by
  rw [s.enterAborting_state]
  split <;> decide

theorem State.enterWinddown_ne_ramping (c : Cause) : (s.enterWinddown c).spin.state ≠ .ramping := by
  rw [s.enterWinddown_state]
  split <;> decide

theorem State.abortOn_calm (c : Cause) : Calm s (s.abortOn c) := by
  unfold State.abortOn
  split
  · exact .of_ne (s.enterAborting_ne_ramping c)
  · exact .refl s

theorem State.closeActive_calm (c : Cause) : Calm s (s.closeActive c) := by
  unfold State.closeActive
  split
  · exact .of_ne (s.enterWinddown_ne_ramping c)
  · exact .refl s

theorem State.startRetreating_ne_ramping (i : Nat) (reason : StateReason) :
    (s.startRetreating i reason).spin.state ≠ .ramping := by
  rw [s.startRetreating_eq, s.descending_spin]
  exact fun h => nomatch h

theorem State.startRetreating_calm (i : Nat) (reason : StateReason) : Calm s (s.startRetreating i reason) :=
  .of_ne (s.startRetreating_ne_ramping i reason)

theorem State.fillEnd_calm : Calm s s.fillEnd := by
  unfold State.fillEnd
  split
  · exact .of_ne (by simp)
  · exact .refl s

theorem State.fillEndIfDone_calm (planner : Bool) : Calm s (s.fillEndIfDone planner) := by
  unfold State.fillEndIfDone
  split
  · exact s.fillEnd_calm
  · exact .refl s

theorem State.finishOrder_calm (r : EndReason) : Calm s (s.finishOrder r) :=
  (Calm.water (s.endAndGoOn_frame r)).trans (State.fillEndIfDone_calm _ _)

theorem State.speedChanged_calm (old : Nat) : Calm s (s.speedChanged old) := by
  obtain h | ⟨-, h⟩ := s.speedChanged_spin old
  · exact .of_spin h
  · exact .of_ne (by rw [h]; exact fun hr => nomatch hr)

theorem State.strikeEvent_calm (x y : Int) (m : Nat) : Calm s (s.strikeEvent x y m) := by
  unfold State.strikeEvent
  split
  · split
    · exact .refl s
    · exact .of_spin rfl
  · exact s.abortOn_calm _

theorem State.sensorEvent_calm : Calm s s.sensorEvent := by
  unfold State.sensorEvent
  split
  · exact .of_spin rfl
  · exact s.abortOn_calm _

theorem State.indexLossEvent_calm : Calm s s.indexLossEvent := by
  unfold State.indexLossEvent
  split
  · exact .of_spin rfl
  · exact s.abortOn_calm _

theorem State.stoppedEvent_calm : Calm s s.stoppedEvent := by
  have hended : Calm s s.endSession := .of_ne (by rw [s.endSession_state]; decide)
  unfold State.stoppedEvent
  split
  · exact .of_ne (s.enterAborting_ne_ramping _)
  · exact .of_ne (s.enterAborting_ne_ramping _)
  · exact .of_ne (s.enterAborting_ne_ramping _)
  · exact .of_ne (s.enterAborting_ne_ramping _)
  · exact .of_ne (s.enterAborting_ne_ramping _)
  · exact .refl s
  · exact hended
  · exact hended
  · exact .refl s

/-! ## The events of the rotation and of the sampler -/

theorem State.torqueAssigned_spin (q : Option Nat) : (s.torqueAssigned q).spin = s.spin := by
  rw [s.torqueAssigned_eq]

theorem State.torqueAssigned_est (q : Option Nat) : (s.torqueAssigned q).est = s.est := by
  rw [s.torqueAssigned_eq]

theorem State.joinPending_spin : s.joinPending.spin = s.spin := by
  unfold State.joinPending
  split
  · rfl
  · split
    · exact State.torqueAssigned_spin _ _
    · rfl

theorem State.openRevolution_spin (l : Look) : (s.openRevolution l).spin = s.spin := by
  unfold State.openRevolution
  split <;> rfl

theorem State.countInvalid_calm : Calm s s.countInvalid := by
  unfold State.countInvalid
  dsimp only
  split
  · exact (Calm.of_spin rfl).trans (State.sensorEvent_calm _)
  · exact .of_spin rfl

theorem State.readComplete_calm (x y : BitVec 12) : Calm s (s.readComplete x y) := by
  unfold State.readComplete State.readDone
  split
  · dsimp only
    split
    · split
      · exact (Calm.of_spin rfl).trans (State.strikeEvent_calm _ _ _ _)
      · exact .of_spin rfl
    · exact (Calm.of_spin rfl).trans (State.countInvalid_calm _)
    · exact .of_spin rfl
  · exact .refl s

theorem State.conversionComplete_spin (code : BitVec 10) : (s.conversionComplete code).spin = s.spin := by
  unfold State.conversionComplete State.conversionDone
  split
  · dsimp only
    split <;> rfl
  · rfl

theorem State.countSlotEdge_calm : Calm s s.countSlotEdge := by
  unfold State.countSlotEdge State.indexLoss
  dsimp only
  split
  · exact (Calm.of_spin rfl).trans (State.indexLossEvent_calm _)
  · exact .of_spin rfl

theorem State.placeSlotEdge_spin (l : Look) (climb : Bool) : (s.placeSlotEdge l climb).spin = s.spin := by
  unfold State.placeSlotEdge
  split
  · rfl
  · exact s.joinPending_spin

theorem State.slotEdge_calm : Calm s s.slotEdge := by
  have htimed : Calm s s.timeSlotEdge := (Calm.of_spin rfl).trans (State.speedChanged_calm _ _)
  have hplaced (l : Look) (climb : Bool) : Calm s ((s.timeSlotEdge.placeSlotEdge l climb).weighSlotEdge) :=
    htimed.trans (.of_spin (State.placeSlotEdge_spin _ l climb))
  unfold State.slotEdge
  dsimp only
  refine Calm.trans ?_ (State.countSlotEdge_calm _)
  split
  · exact (hplaced _ _).trans (State.countInvalid_calm _)
  · exact hplaced _ _

theorem State.standstill_calm : Calm s s.standstill := by
  have hstopped : Calm s s.stopBasket := .of_spin rfl
  unfold State.standstill
  dsimp only
  split
  · exact (hstopped.trans (State.speedChanged_calm _ _)).trans (State.stoppedEvent_calm _)
  · exact (hstopped.trans (State.stoppedEvent_calm _)).trans (State.speedChanged_calm _ _)

/-! ## The events of the water and of the timers -/

theorem State.flowPulse_calm : Calm s s.flowPulse := by
  unfold State.flowPulse
  split
  · unfold State.meterPulse
    dsimp only
    split
    · exact (Calm.of_spin rfl).trans (State.finishOrder_calm _ _)
    · exact .of_spin rfl
  · exact .water s.leakPulse_frame

theorem State.bleed_spin : s.bleed.spin = s.spin := by
  unfold State.bleed
  dsimp only
  split <;> rfl

theorem State.supplyTimeout_calm : Calm s s.supplyTimeout := by
  unfold State.supplyTimeout
  split
  · exact (Calm.water (s.endAll_frame .supply)).trans
      ((Calm.of_spin rfl).trans (State.fillEndIfDone_calm _ _))
  · exact .refl s

theorem State.depositContent_calm (c : Fin 4) (g : Nat) : Calm s (s.depositContent c g) := by
  have hset : Calm s (s.setCham (s.cham.setContent c (min g capacity))) := .of_spin rfl
  unfold State.depositContent
  dsimp only
  split
  · exact hset.trans (State.finishOrder_calm _ _)
  · exact hset

theorem State.stopChamber_calm (c : Fin 4) : Calm s (s.stopChamber c).1 := by
  unfold State.stopChamber
  split
  · exact .water (s.endAndGoOn_frame _)
  · split
    · exact .water ((WaterFrame.setCham s _).trans (State.endUnstarted_frame _ _ _ _))
    · exact .refl s

theorem State.leaveService_calm : Calm s s.leaveService :=
  .of_spin (State.endAll_frame (s.setServ { s.serv with mode := false }) .stopped).spin

theorem State.rampTimeout_calm : Calm s s.rampTimeout := by
  unfold State.rampTimeout
  dsimp only
  split
  · exact .of_ne (State.startRetreating_ne_ramping _ _ _)
  · exact s.abortOn_calm _

/-- R128: a new target starts no ramp in RAMPING. -/
theorem State.applyTarget_calm (t : Nat) : Calm s (s.applyTarget t) := by
  unfold State.applyTarget
  split
  next h => exact fun _ => h
  · split
    · exact s.startRetreating_calm _ _
    · exact .refl s
  · split
    · exact s.startRetreating_calm _ _
    · exact .refl s
  · split
    · exact s.startRetreating_calm _ _
    · exact .refl s
  all_goals exact .refl s

theorem State.beginSession_calm (t n : Nat) (c : Bool) : Calm s (s.beginSession t n c) := by
  have hweighing : Calm s ((s.prepareSession t n c).enter .weighing .start) := .of_ne (by simp)
  unfold State.beginSession
  dsimp only
  split
  · exact hweighing.trans (State.abortOn_calm _ _)
  · exact hweighing

/-! ## Records in the states in which no ramp starts -/

theorem State.completionTest_calm (r : RevRecord) : Calm s (s.completionTest r) := by
  unfold State.completionTest
  dsimp only
  split
  · split
    · exact .of_ne (by simp [State.arrive])
    · exact .of_state rfl
  · exact .of_state rfl

end

end Sys2Proof.Machine
end

section
/-! The two ways into RAMPING (R105, R117; O53). -/

namespace Sys2Proof.Machine

/-! ## How a ramp starts -/

/-- R105: from MEASURING, by a decision under a permit. -/
structure Spin.Permits (p : Spin) (t : State) : Prop where
  measuring : p.state = .measuring
  below : p.dwell.getD 0 < p.goal.getD 0
  dest : t.spin.dest = some (p.nextDwell (p.dwell.getD 0) (p.goal.getD 0))
  latest : ∃ e, t.est.latest = some e ∧ e.step = p.dwell.getD 0 ∧ mag e.avg ≤ p.limitOf (p.dwell.getD 0)
    ∧ e.predictions.map Prediction.step = (List.range (p.nextDwell (p.dwell.getD 0) (p.goal.getD 0) - p.dwell.getD 0)).map
      (fun x => p.dwell.getD 0 + 1 + x)
    ∧ p.permit e.predictions = true

/-- A ramp that was not there before starts at the end of a weighing (R117) or under a permit (R105). -/
def Spin.Rises (p : Spin) (t : State) : Prop := t.spin.state = .ramping →
  p.state = .ramping ∨ (p.state = .weighing ∧ t.spin.dest = some 0 ∧ t.spin.dir = some .up) ∨ p.Permits t

theorem Calm.rises {s t : State} (h : Calm s t) : s.spin.Rises t := fun hr => .inl (h hr)

theorem Spin.Rises.congr {p : Spin} {t u : State} (h : p.Rises t) (hspin : u.spin = t.spin)
    (hlatest : u.est.latest = t.est.latest) : p.Rises u := by
  intro hr
  obtain hkept | ⟨hweighing, hdest, hdir⟩ | ⟨hm, hbelow, hdest, he⟩ := h (hspin ▸ hr)
  · exact .inl hkept
  · exact .inr (.inl ⟨hweighing, hspin ▸ hdest, hspin ▸ hdir⟩)
  · exact .inr (.inr ⟨hm, hbelow, hspin ▸ hdest, hlatest ▸ he⟩)

/-! ## A decision -/

section
variable (s : State)

theorem State.applyChoice_calm (i : Nat) (a k : Pair) (size test : Nat) {c : Choice} (hc : ∀ j, c ≠ .advance j) :
    Calm s (s.applyChoice i a k size ⟨c, test⟩) := by
  cases c with
  | advance j => exact absurd rfl (hc j)
  | balance orders => exact .of_ne fun h => nomatch (s.enterBalancing_spin i a k orders) ▸ h
  | retreat => exact s.startRetreating_calm _ _
  | capHere => exact .of_state rfl
  | capRetreats => exact .of_ne (State.startRetreating_ne_ramping _ _ _)
  | redistribute => exact .of_ne (State.enterWinddown_ne_ramping _ _)
  | hold => exact .refl s
  | unbalanced => exact .of_ne (State.enterWinddown_ne_ramping _ _)

theorem State.decideWith_rises (d : Option Nat) (w : ReadyWindow) (learned : Learned) (k : Pair) (above : List StepK)
    (hm : s.spin.state = .measuring)
    (hd : ∀ j, d = some j → s.spin.dwell.getD 0 < s.spin.goal.getD 0
      ∧ j = s.spin.nextDwell (s.spin.dwell.getD 0) (s.spin.goal.getD 0)
      ∧ above.map StepK.step = (List.range (j - s.spin.dwell.getD 0)).map (fun x => s.spin.dwell.getD 0 + 1 + x)) :
    s.spin.Rises (s.decideWith (s.spin.dwell.getD 0) (s.spin.goal.getD 0) d w learned k above) := by
  obtain ⟨report, heq⟩ := s.decideWith_eq (s.spin.dwell.getD 0) (s.spin.goal.getD 0) d w learned k above
  rw [heq]
  generalize hsize : estimateSize (estimateU k w.avg) w.steady = size
  generalize hqs : predictionsOf size above = qs
  have hallowed := (s.estimated (s.spin.dwell.getD 0) w learned k qs).choose_allowed (s.spin.dwell.getD 0) d
    (mag w.avg) size (estimateU k w.avg) qs
  generalize State.choose _ _ d (mag w.avg) size _ qs = dec at hallowed ⊢
  obtain ⟨c, test⟩ := dec
  let x := giveReport report ((s.estimated (s.spin.dwell.getD 0) w learned k qs).setSpin (s.spin.countOutcome c))
  have hx : x.spin.state = .measuring := (s.spin.countOutcome_same c).1.trans hm
  cases c with
  | advance j =>
    obtain ⟨hj, hmag, hpermit⟩ := hallowed
    obtain ⟨hbelow, hnext, hsteps⟩ := hd j hj
    have hpred : qs.map Prediction.step = above.map StepK.step := by rw [← hqs, predictionsOf_steps]
    let e : Estimate := ⟨s.spin.dwell.getD 0, w.newest, s.spin.par.windowRevs, w.steady, w.spread, w.avg, k,
      estimateU k w.avg, estimateSize (estimateU k w.avg) w.steady, learned, qs⟩
    refine fun _ => .inr (.inr ⟨hm, hbelow, ?_, e, ?_, rfl, hmag, ?_, hpermit⟩)
    · show (x.applyChoice _ w.avg k size ⟨.advance j, test⟩).spin.dest = _
      rw [State.applyChoice_advance hx, ← hnext]
      rfl
    · show (x.applyChoice _ w.avg k size ⟨.advance j, test⟩).est.latest = _
      rw [State.applyChoice_advance hx]
      rfl
    · rw [← hnext]
      exact hpred.trans hsteps
  | _ =>
    refine (Calm.trans (a := s) (b := x) (.of_state (hx.trans hm.symm)) (x.applyChoice_calm _ _ _ _ _ fun j h => ?_)).rises
    cases h

theorem State.decisionEvent_rises (w : ReadyWindow) (hm : s.spin.state = .measuring) :
    s.spin.Rises (s.decisionEvent w) := by
  unfold State.decisionEvent
  dsimp only
  generalize hc : s.weigh.cls.getD 0 = c
  generalize hd : (if s.spin.dwell.getD 0 < s.spin.goal.getD 0 then
    some (s.spin.nextDwell (s.spin.dwell.getD 0) (s.spin.goal.getD 0)) else none) = d
  have hspin (x : State) (ks : Option (List StepK))
      (h : (s.learningStep c w.avg).1.lookups c (decisionSteps (s.spin.dwell.getD 0) d) = (x, ks)) :
      x.spin = s.spin := State.lookups_spin h
  generalize (s.learningStep c w.avg).2 = learned
  generalize (s.learningStep c w.avg).1 = s1 at hspin
  split
  next => exact (Calm.of_ne (State.enterAborting_ne_ramping _ _)).rises
  next x h => exact (Calm.of_spin (hspin x _ h)).rises
  next x q above h =>
    rw [← hspin x _ h]
    refine x.decideWith_rises d w learned q.k above (by rw [hspin x _ h, hm]) fun j hj => ?_
    rw [hspin x _ h]
    rw [hj] at hd
    split at hd
    next hlt =>
      cases hd
      have hsteps := State.lookups_steps h
      rw [hj, decisionSteps_some (Nat.le_of_lt (s.spin.nextDwell_mem hlt).1), List.map_cons, List.cons.injEq] at hsteps
      exact ⟨hlt, rfl, hsteps.2⟩
    next => cases hd

theorem State.windowStep_rises (n : RevNum) (hm : s.spin.state = .measuring) : s.spin.Rises (s.windowStep n) := by
  unfold State.windowStep
  dsimp only
  split
  · exact (Calm.refl s).rises
  split
  · exact s.decisionEvent_rises _ hm
  split
  · exact (Calm.of_spin rfl).rises
  · exact s.decisionEvent_rises _ hm

/-! ## A record -/

theorem State.measuringRecord_rises (r : RevRecord) (hm : s.spin.state = .measuring) :
    s.spin.Rises (s.measuringRecord r) := by
  unfold State.measuringRecord
  dsimp only
  split
  · exact State.windowStep_rises _ _ hm
  · exact (Calm.of_spin rfl).rises

theorem State.endWeighing_rises (e : Weigh × WeighedReport) (h : s.spin.state = .weighing) :
    s.spin.Rises (s.endWeighing e) := by
  have hspin := (giveReport (.weighed e.2) (s.setWeigh e.1)).startRamping_spin 0 .up .weighed
  exact fun _ => .inr (.inl ⟨h, congrArg Spin.dest hspin, congrArg Spin.dir hspin⟩)

theorem State.weighingRecord_rises (r : RevRecord) (h : s.spin.state = .weighing) :
    s.spin.Rises (s.weighingRecord r) := by
  unfold State.weighingRecord
  dsimp only
  split
  · exact State.endWeighing_rises _ _ h
  · exact (Calm.of_spin rfl).rises

theorem State.settlingRecord_calm (r : RevRecord) : Calm s (s.settlingRecord r) := by
  unfold State.settlingRecord
  dsimp only
  split
  · split
    · exact .of_ne (by simp)
    · exact .of_state rfl
  · exact .refl s

theorem State.balancingRecord_calm (r : RevRecord) : Calm s (s.balancingRecord r) := by
  unfold State.balancingRecord
  dsimp only
  split
  · split
    · exact .of_ne (State.startRetreating_ne_ramping _ _ _)
    · exact .of_ne (by simp)
  · exact .refl s

theorem State.takeRecord_rises (r : RevRecord) : s.spin.Rises (s.takeRecord r) := by
  unfold State.takeRecord
  split
  next h => exact s.weighingRecord_rises r h
  next h => exact fun _ => .inl h
  next => exact (s.completionTest_calm r).rises
  next => exact (s.settlingRecord_calm r).rises
  next h => exact s.measuringRecord_rises r h
  next => exact (s.balancingRecord_calm r).rises
  all_goals exact (Calm.refl s).rises

/-- R148: the end of a plan's fills leaves the latest estimate alone. -/
theorem State.speedChanged_latest (old : Nat) : (s.speedChanged old).est.latest = s.est.latest := by
  have hended : s.speedEnd.est.latest = s.est.latest := by
    have hall := (s.endAll_frame .speed).latest
    unfold State.speedEnd State.fillEndIfDone State.fillEnd
    split
    · split
      · exact hall
      · exact hall
    · exact hall
  unfold State.speedChanged
  split
  · split
    · exact hended
    · rfl
  · rfl

/-- R14: in either order, the speed first or the record first. -/
theorem State.handOff_rises (old : Nat) (r : RevRecord) : s.spin.Rises (s.handOff old r) := by
  have htrace : (s.traceRevolution r).spin = s.spin := by
    unfold State.traceRevolution
    split <;> rfl
  unfold State.handOff
  dsimp only
  generalize s.traceRevolution r = x at htrace
  rw [← htrace]
  split
  · obtain h | ⟨-, h⟩ := x.speedChanged_spin old
    · rw [← h]
      exact State.takeRecord_rises _ r
    · have hsettling : (x.speedChanged old).spin.state = .settling := by rw [h]
      unfold State.takeRecord
      rw [hsettling]
      exact (Calm.trans (x.speedChanged_calm old) (State.settlingRecord_calm _ r)).rises
  · obtain h | ⟨-, h⟩ := (x.takeRecord r).speedChanged_spin old
    · exact (x.takeRecord_rises r).congr h (State.speedChanged_latest _ old)
    · exact (Calm.of_ne (by rw [h]; exact fun hr => nomatch hr)).rises

theorem State.indexEdge_rises (b : Bool) : s.spin.Rises (s.indexEdge b) := by
  unfold State.indexEdge
  dsimp only
  split
  · exact (Calm.of_spin ((State.torqueAssigned_spin _ _).trans (State.openRevolution_spin _ _))).rises
  next v _ =>
    have hopened (x : State) (hx : x.spin = s.spin) (l : Look) (r : RevRecord) :
        s.spin.Rises ((x.openRevolution l).handOff s.rot.speed r) := by
      rw [← hx, ← x.openRevolution_spin l]
      exact State.handOff_rises _ _ _
    refine (hopened _ ?_ _ _).congr (State.torqueAssigned_spin _ _)
      (congrArg Estimator.latest (State.torqueAssigned_est _ _))
    rfl

end

/-! ## Every event -/

theorem BlockEvent.rises {s t : State} (h : BlockEvent s t) (hweigh : s.weigh.phase ≠ .off → s.spin.state = .weighing) :
    s.spin.Rises t := by
  cases h with
  | indexEdge b => exact s.indexEdge_rises b
  | weighLimit =>
    unfold State.weighLimit
    split
    next => exact (Calm.refl s).rises
    next hphase => exact s.endWeighing_rises _ (hweigh hphase)
  | powerOnReset lsel => exact (Calm.of_ne (by exact fun h => nomatch h)).rises
  | slotEdge => exact s.slotEdge_calm.rises
  | joinPending => exact (Calm.of_spin s.joinPending_spin).rises
  | readComplete x y => exact (s.readComplete_calm x y).rises
  | conversionComplete code => exact (Calm.of_spin (s.conversionComplete_spin code)).rises
  | standstill => exact s.standstill_calm.rises
  | driveFault => exact (Calm.trans (.of_spin rfl) (State.abortOn_calm _ _)).rises
  | flowPulse => exact s.flowPulse_calm.rises
  | svcFalls =>
    unfold State.svcFalls
    dsimp only
    split
    · exact (Calm.trans (.of_spin rfl) (State.leaveService_calm _)).rises
    · exact (Calm.of_spin rfl).rises
  | rampTimeout => exact s.rampTimeout_calm.rises
  | durationEnds => exact (s.closeActive_calm _).rises
  | bleed => exact (Calm.of_spin s.bleed_spin).rises
  | supplyTimeout => exact s.supplyTimeout_calm.rises
  | restart => exact (Calm.of_ne (by exact fun h => nomatch h)).rises
  | loadLadder => exact Calm.rises (s := s) (.of_state rfl)
  | loadParameters => exact Calm.rises (s := s) (.of_state rfl)
  | startSpin t n c => exact (s.beginSession_calm t n c).rises
  | setTarget t => exact Calm.rises (s := s) (.trans (.of_state rfl) (State.applyTarget_calm (s.setSpin _) t))
  | stop => exact (s.closeActive_calm _).rises
  | serviceLeave => exact s.leaveService_calm.rises
  | depositChamber c g => exact (s.depositContent_calm c g).rises
  | manualFill b => exact (Calm.water (s.takeOrder_frame _)).rises
  | stopAll => exact (Calm.water (s.endAll_frame _)).rises
  | stopChamber c => exact (s.stopChamber_calm c).rises
  | _ => exact (Calm.of_spin rfl).rises

/-- R90: below the next dwell step there is no other DWELL step. -/
theorem Spin.dwellFrom_first {p : Spin} {j n d x : Nat} (h : p.dwellFrom j n = some d) (hj : j ≤ x) (hx : x < d) :
    p.isDwell x = false := by
  induction n generalizing j with
  | zero => cases h
  | succ n ih =>
    rw [Spin.dwellFrom] at h
    split at h
    next => cases h; omega
    next hne =>
      obtain rfl | hlt := Nat.eq_or_lt_of_le hj
      · exact Bool.eq_false_iff.2 hne
      · exact ih h hlt

theorem Spin.dwellFrom_none {p : Spin} {j n x : Nat} (h : p.dwellFrom j n = none) (hj : j ≤ x) (hx : x < j + n) :
    p.isDwell x = false := by
  induction n generalizing j with
  | zero => omega
  | succ n ih =>
    rw [Spin.dwellFrom] at h
    split at h
    next => cases h
    next hne =>
      obtain rfl | hlt := Nat.eq_or_lt_of_le hj
      · exact Bool.eq_false_iff.2 hne
      · exact ih h hlt (by omega)

theorem Spin.nextDwell_first {p : Spin} {i goal x : Nat} (hi : i < x) (hx : x < p.nextDwell i goal) :
    p.isDwell x = false := by
  unfold Spin.nextDwell at hx
  cases hd : p.dwellFrom (i + 1) (goal - i) with
  | none =>
    rw [hd] at hx
    have hx : x < goal := hx
    exact Spin.dwellFrom_none hd hi (by omega)
  | some d =>
    rw [hd] at hx
    exact Spin.dwellFrom_first hd hi hx

/-- Settles O53: every event but a taken record and the weigh limit leaves the spin state out of RAMPING. -/
theorem climbNeedsAPermit : Obligations.ClimbNeedsAPermit := by
  unfold Obligations.ClimbNeedsAPermit
  intro s t hsession _ hcourse hstep hnot hramping
  obtain ⟨-, -, -, -, -, -, -, -, -, -, -, hphase, -⟩ := hsession
  have hrises : s.spin.Rises t := by
    obtain ⟨u, v, hu, hv, ht⟩ := step_blocks hstep
    have huv : u.spin.Rises v := by
      obtain rfl | hv := hv
      · exact (Calm.refl v).rises
      · exact hv.rises fun h => by
          rw [hu.weigh] at h
          rw [hu.spin]
          exact hphase.1 h
    rw [← hu.spin]
    exact huv.congr ht.spin (congrArg Estimator.latest ht.est)
  obtain hkept | hweighing | ⟨hm, hbelow, hdest, e, he, hstepOf, hmag, hsteps, hpermit⟩ := hrises hramping
  · exact absurd hkept hnot
  · exact .inl hweighing
  · obtain ⟨i, hi, -, -⟩ := hcourse.plateau (by rw [hm]; rfl)
    obtain ⟨a, b, ha, hb, hmin, hda, hdb⟩ := (hcourse.base (by rw [hm]; rfl)).marks
    have hgoal : s.spin.goal = some (min a b) := by
      rw [Spin.goal, ha, hb]
    have hdwell : s.spin.isDwell (min a b) = true := by
      obtain h | h := Nat.le_total a b
      · rwa [Nat.min_eq_left h]
      · rwa [Nat.min_eq_right h]
    simp only [hi, hgoal, Option.getD_some] at hbelow hdest hstepOf hmag hsteps
    obtain ⟨hlt, hle⟩ := s.spin.nextDwell_mem hbelow
    exact .inr ⟨hm, i, _, _, e, hi, hdest, hgoal, he, hstepOf, hlt, hle, Spin.isDwell_nextDwell hdwell,
      fun x => Spin.nextDwell_first, hmag, hsteps, Spin.permit_iff.1 hpermit⟩

end Sys2Proof.Machine
end

section
/-! The receiver over the octets of a whole frame, and the levels of the two lines (R162 to R166, 11.1; O12). -/

namespace Sys2Proof.Machine

/-! ## The receiver over a frame (R164, R166) -/

/-- The receiver takes the octets of a run after those of another. -/
theorem rxRun_content {n : Octet} {got os : List Octet} (tail : List Octet) (hos : os ≠ [])
    (hn : got.length + os.length = n.toNat) : rxRun (.content n got) (os ++ tail) =
      ((rxRun (.check n (got ++ os) none) tail).1,
        List.replicate os.length .quiet ++ (rxRun (.check n (got ++ os) none) tail).2) := by
  induction os generalizing got with
  | nil => exact absurd rfl hos
  | cons o rest ih =>
    rw [List.length_cons] at hn
    by_cases hrest : rest = []
    · subst hrest
      have hlast : ¬ got.length + 1 < n.toNat := by
        rw [List.length_nil] at hn
        omega
      rw [List.cons_append, rxRun, rxOctet, if_neg hlast]
      rfl
    · have hmore : got.length + 1 < n.toNat := by
        have := List.length_pos_iff.2 hrest
        omega
      rw [List.cons_append, rxRun, rxOctet, if_pos hmore]
      dsimp only
      rw [ih hrest (by rw [List.length_append, List.length_singleton]; omega), List.append_assoc]
      rfl

theorem Frame.lengthOctet_toNat {f : Frame} (h : f.body.length ≤ 64) : f.lengthOctet.toNat = f.body.length + 2 :=
  u8_toNat_lt (by omega)

theorem quiet_run (n : Nat) (e : RxEvent) : RxEvent.quiet :: RxEvent.quiet :: (List.replicate n .quiet ++ [.quiet, e]) =
    List.replicate (n + 3) .quiet ++ [e] := by
  rw [List.replicate_succ, List.replicate_succ, List.replicate_succ', List.cons_append, List.cons_append,
    List.append_assoc]
  rfl

/-- R164: from HUNTING, every octet of a frame but the last is quiet. -/
theorem rxRun_frame {f : Frame} (h : f.body.length ≤ 64) (hi lo : Octet) :
    rxRun .hunting (startOctet :: f.checked ++ [hi, lo]) =
      (.hunting, List.replicate (f.body.length + 5) .quiet
        ++ [if crcOctets f.checked = [hi, lo] then .frame f else .discard .crc]) := by
  have hlength := f.lengthOctet_toNat h
  have hne : f.lengthOctet ≠ startOctet := by
    intro heq
    rw [heq] at hlength
    exact absurd hlength (by rw [show startOctet.toNat = 197 from rfl]; omega)
  have hrange : 2 ≤ f.lengthOctet.toNat ∧ f.lengthOctet.toNat ≤ 66 := by omega
  have hcontent := rxRun_content (n := f.lengthOctet) (got := []) (os := f.kind :: f.tag :: f.body) [hi, lo]
    (List.cons_ne_nil _ _) (by rw [hlength]; simp only [List.length_cons, List.length_nil]; omega)
  show rxRun .hunting (startOctet :: f.lengthOctet :: (f.kind :: f.tag :: f.body ++ [hi, lo])) = _
  rw [rxRun, rxOctet, if_pos rfl]
  dsimp only
  rw [rxRun, rxOctet, if_neg hne, if_pos hrange]
  dsimp only
  rw [hcontent, List.length_cons, List.length_cons]
  exact congrArg (Prod.mk RxState.hunting) (quiet_run _ _)

theorem crcOctets_pair (l : List Octet) : ∃ hi lo, crcOctets l = [hi, lo] := ⟨_, _, rfl⟩

/-! ## LTX (R162) -/

section
variable {s : State} {f : Frame} {reply : Bool} (h : s.link.tx = some ⟨f, reply⟩)
include h

theorem State.ltx_sending (n : Nat) : s.ltx n = f.level n := by
  simp only [State.ltx, h]

theorem State.ltx_bit {k j : Nat} (hk : k < f.wire.length) (hj : j < 10) :
    s.ltx (10 * k + j) = octetLevel f.wire[k] j := by
  rw [State.ltx_sending h, f.level_octet hk hj]

theorem State.ltx_after {n : Nat} (hn : 10 * f.wire.length ≤ n) : s.ltx n = true := by
  rw [State.ltx_sending h, Frame.level, List.getElem?_eq_none (by omega)]

end

/-- Settles O12: the receiver goes through the octets of a frame one by one, and each line carries an octet as its ten
bits. -/
theorem receiverTakesEveryFrame : Obligations.ReceiverTakesEveryFrame := by
  unfold Obligations.ReceiverTakesEveryFrame
  refine ⟨fun f h => ?_, fun f hi lo h hcrc => ?_, fun s f reply h => ⟨fun k hk => ⟨?_, fun i hi => ?_, ?_⟩,
    fun n => State.ltx_after h⟩, fun s n h => ?_, fun line => ⟨fun o h9 hd => ?_, lineOctet_low⟩⟩
  · obtain ⟨hi, lo, hpair⟩ := crcOctets_pair f.checked
    rw [Frame.wire, hpair, rxRun_frame h, if_pos hpair]
  · rw [rxRun_frame h, if_neg hcrc]
  · exact State.ltx_bit h hk (j := 0) (by decide)
  · rw [Nat.add_assoc, State.ltx_bit h hk (by omega), octetLevel, if_neg (by omega), if_pos (by omega),
      Nat.add_sub_cancel_left]
  · exact State.ltx_bit h hk (by decide)
  · simp only [State.ltx, h]
  · exact lineOctet_high h9 fun i hi => by rw [Nat.add_comm]; exact hd i hi

end Sys2Proof.Machine
end
